-- ==== Sys2Proof/Word.lean ====
section
/-! DEFINITION. The word types of the part: line bytes and 32-bit register values. -/

namespace Sys2Proof

/-- A byte of a link frame or of a host transfer (R89, R170). -/
abbrev Byte := BitVec 8

/-- A register of the register window: 32 bits, bit 0 least significant (Table 9-2). -/
abbrev Word := BitVec 32

end Sys2Proof
end

