-- ==== Sys2Proof/Syntax.lean ====
section
/-! DEFINITION. The commands of the part: one constructor per row of spec/opcode_table.json. -/

namespace Sys2Proof

/-- The direction of a host transfer (R170). -/
inductive Direction where
  | read
  | write
deriving DecidableEq, Repr

/-- The four grades of the line (Table 7-3). -/
inductive Grade where
  | g1
  | g2
  | g3
  | g4
deriving DecidableEq, Repr

/-- The issue level of a requester (Table 1-12). -/
inductive Level where
  | a
  | b
deriving DecidableEq, Repr

/-- The status of a completion that the part takes (R93). Code 3 is a rejected frame (R100). -/
inductive CpStatus where
  | ok
  | remoteFault
  | unsupported
deriving DecidableEq, Repr

/-- The commands, in the table's order. A command is one whole and indivisible step of the part
(spec/95_what_each_step_holds.md). A row that is a register write stands for a taken access of 4 bytes at its
register (R172); a write that is not taken is a `registerWrite` (log entry 13). A received frame carries the fields
that its kind has on the line (Chapter 5). -/
inductive Instr where
  /-- APERTURE_TRANSFER (R4, R170): `data` holds the bytes of a write in transfer order, and nothing for a read. -/
  | apertureTransfer (requester : Fin 8) (direction : Direction) (offset : BitVec 28) (size : Nat) (data : List Byte)
  /-- REGISTER_WRITE (R172, R174): a register-select write; `value` is the 32-bit value of a 4-byte access. -/
  | registerWrite (requester : Fin 8) (offset : BitVec 12) (size : Nat) (value : Word)
  /-- FUNCTION_RESET (R179): a write of 00CH with bit 0 set. -/
  | functionReset
  /-- ENABLE (R149): a write of 040H with code 1. -/
  | enable
  /-- RESTART (R149): a write of 040H with code 3. -/
  | restart
  /-- RETRAIN (R150): a write of 040H with code 2. -/
  | retrain
  /-- DISABLE (R151): a write of 040H with code 4. -/
  | disable
  /-- UNASSIGNED_LINK_COMMAND (R148): a write of 040H with a code from 5 to 15. -/
  | unassignedLinkCommand (code : BitVec 4)
  /-- CLEAR_LAPSE (R25): a write of a requester record with the clear-lapse bit set, its level and its held limit. -/
  | clearLapse (requester : Fin 8) (level : Level) (limit : BitVec 3)
  /-- CLEAR_WRAP_FLAG (R115): a write of 05CH with bit 16 set. -/
  | clearWrapFlag
  /-- CLEAR_REMOTE_SOURCE (R157): a write of 200H, source n at bit n. -/
  | clearRemoteSource (marks : BitVec 16)
  /-- CLEAR_LOCAL_CAUSE (R161): a write of 20CH, the cause of rank k at bit k - 1. -/
  | clearLocalCause (marks : BitVec 8)
  /-- FAULT_RECORD_CLEAR (R167): a write of 2A4H with bit 0 set. -/
  | faultRecordClear
  /-- CHIP_RESET (R180): RESET_N is driven low, or power-up. -/
  | chipReset
  /-- CHIP_RESET_RELEASE (R180): RESET_N goes high. -/
  | chipResetRelease
  /-- CP_RECEIVED (R93, R120): sequence number, tag, status and the data bytes, whose number is the data length. -/
  | cpReceived (number : BitVec 7) (tag : Fin 32) (status : CpStatus) (data : List Byte)
  /-- EV_RECEIVED (R94, R120): sequence number, event kind code and the seven bytes of the event body. -/
  | evReceived (number : BitVec 7) (kind : BitVec 4) (body : Vector Byte 7)
  /-- AK_RECEIVED (R95, R109): the acknowledged number. -/
  | akReceived (number : BitVec 7)
  /-- NK_RECEIVED (R95, R110): the last good number. -/
  | nkReceived (number : BitVec 7)
  /-- CR_RECEIVED (R95, R77): the returned total. -/
  | crReceived (total : BitVec 8)
  /-- SK_RECEIVED (R96, R135): the grade. -/
  | skReceived (grade : Grade)
  /-- AL_RECEIVED (R96, R138): the align index. -/
  | alReceived (index : BitVec 8)
  /-- PM_RECEIVED (R97, R140): session number, grade, request offer and write offer. -/
  | pmReceived (session : BitVec 4) (grade : Grade) (requestOffer : BitVec 8) (writeOffer : BitVec 8)
  /-- CORRUPT_FRAME_RECEIVED (R100, R125): its kind and fields are not used. -/
  | corruptFrameReceived
  /-- REJECTED_FRAME_RECEIVED (R100): its fields are not used. -/
  | rejectedFrameReceived
  /-- COMPLETION_TIMER_EXPIRY (R73): the completion timer of an entry. -/
  | completionTimerExpiry (entry : Fin 16)
  /-- DISCARD_TIMER_EXPIRY (R23): the discard timer of an entry. -/
  | discardTimerExpiry (entry : Fin 16)
  /-- REPLAY_TIMER_EXPIRY (R111). -/
  | replayTimerExpiry
  /-- ACK_DELAY_TIMER_EXPIRY (R124). -/
  | ackDelayTimerExpiry
  /-- SEEK_WINDOW_EXPIRY (R136). -/
  | seekWindowExpiry
  /-- ALIGN_COUNT_EXPIRY (R139). -/
  | alignCountExpiry
  /-- NEW_FRAME_SLOT (R53, R107). -/
  | newFrameSlot
  /-- SEND_NK (R107). -/
  | sendNk
  /-- SEND_AK (R107, R124). -/
  | sendAk
  /-- REPLAY_PASS_RESEND (R108). -/
  | replayPassResend
  /-- SEND_SK (R96). -/
  | sendSk
  /-- SEND_AL (R96). -/
  | sendAl
  /-- SEND_PM (R97). -/
  | sendPm
deriving DecidableEq, Repr

end Sys2Proof
end

