-- ==== Sys2Proof/Decode.lean ====
section
/-! DEFINITION. The commands that a word spells by the bits of spec/opcode_table.json. No row of the table gives bits,
so no word spells a command (log entry 18). The frames of the link, which do have bits, are read in
Sys2Proof/Machine/Frames.lean. -/

namespace Sys2Proof

/-- The command that a word of `nbits` bits spells: none, because no row of the table gives bits. -/
def decodeTableWord (_nbits _w : Nat) : Option Instr := none

end Sys2Proof
end

