-- ==== Sys2Proof/Config.lean ====
section
/-! DEFINITION. What an implementation fixes, and the model's one free value. -/

namespace Sys2Proof.Config

/-- The identity register: part code 2416H, revision 01H (R176). -/
def identity : Word := 0x24160001#32

/-- The six pattern bytes of an SK frame (R96). -/
def skPattern : List Byte := [0x3C#8, 0xC3#8, 0x5A#8, 0xA5#8, 0x0F#8, 0xF0#8]

/-- FREE VALUE (log entry 4). Which of several events that fall on one host clock is taken next: the spec gives
the outcome of either order and never says which comes first (R166, R170). It is applied to the counter
`freeDraws` of State; the event taken is the one at this index, modulo the number of events. -/
opaque takenFirst : Nat → Nat

end Sys2Proof.Config
end

