-- ==== Sys2Proof/Machine/State.lean ====
section
/-! DEFINITION. The state of the part, block by block (Table 1-1), and its state right after reset. -/

namespace Sys2Proof.Machine

/-! ### WIN (Chapter 2) -/

/-- The mode of a window (R32). -/
inductive WindowMode where
  | off
  | posted
  | strict
  | readonly
deriving DecidableEq, Repr

/-- A window record (R32, Table 2-1). The base and the remote base are kept as written (R33). -/
structure Window where
  mode : WindowMode
  base : BitVec 28
  sizeCode : Fin 17
  remoteBase : BitVec 40
  segment : BitVec 2
deriving DecidableEq, Repr

/-- What a decode that hits hands back to intake (R37). -/
structure Hit where
  window : Fin 8
  mode : WindowMode
  remote : BitVec 40
  segment : BitVec 2
deriving DecidableEq, Repr

/-! ### HRT (Chapter 1) -/

/-- What the requester of an entry asked for (R1). Write data are present for the kind HWRITE alone. -/
inductive HeldKind where
  | read
  | hwrite (data : List Byte)
deriving DecidableEq, Repr

/-- Why a held request failed (R1). -/
inductive FailCause where
  | remoteFault
  | unsupported
  | noCompletion
  | badCompletion
  | linkLost
deriving DecidableEq, Repr

/-- The state of an entry that is not FREE, with the fields that are present in that state alone (Table 1-7).
Each timer is the number of ticks it still has to count (R178). -/
inductive Phase where
  | queued (writesAhead : Nat)
  | issued (tag : Fin 32) (completionTimer : Nat)
  /-- `readData` is present for the kind READ. -/
  | ready (readData : Option (List Byte)) (discardTimer : Nat)
  | failed (cause : FailCause) (discardTimer : Nat)
deriving DecidableEq, Repr

/-- An entry that is not FREE (Table 1-7). -/
structure Held where
  kind : HeldKind
  requester : Fin 8
  offset : BitVec 28
  size : Nat
  window : Fin 8
  remote : BitVec 40
  segment : BitVec 2
  /-- Rank among the requester's entries, 1 for the oldest (R3). -/
  order : Nat
  phase : Phase
deriving DecidableEq, Repr

/-- A requester record (Table 1-12). -/
structure Requester where
  level : Level
  heldLimit : BitVec 3
  heldCount : Nat
  discardRun : Nat
  lapsed : Bool
deriving DecidableEq, Repr

/-- The held request table and the requester table (R1, R25, R28). An entry that is FREE is `none`. -/
structure Hrt where
  entries : Vector (Option Held) 16
  requesters : Vector Requester 8
  discardInterval : BitVec 8
  lapseThreshold : BitVec 4
  discardCount : Nat
deriving DecidableEq, Repr

/-- An aperture transfer as the part takes it from the host bus (R170). -/
structure Transfer where
  requester : Fin 8
  direction : Direction
  offset : BitVec 28
  size : Nat
  data : List Byte
deriving DecidableEq, Repr

/-- The key of an entry or of a transfer (R2). The kind READ or HWRITE is the direction of the transfer (R6). -/
structure Key where
  requester : Fin 8
  direction : Direction
  offset : BitVec 28
  size : Nat
deriving DecidableEq, Repr

/-! ### PWQ and the new-frame selection (Chapter 3) -/

/-- A posted write record (Table 3-1). -/
structure PostedWrite where
  remote : BitVec 40
  segment : BitVec 2
  size : Nat
  data : List Byte
deriving DecidableEq, Repr

/-- The two paths that compete for a new-frame slot (R53). -/
inductive Path where
  | posted
  | held
deriving DecidableEq, Repr

/-- The posted write queue, oldest first, the lost-write count and the last contested record (R45, R57, Table 3-3). -/
structure Pwq where
  queue : List PostedWrite
  lostWrites : Nat
  lastContested : Path
deriving DecidableEq, Repr

/-! ### ISU (Chapter 4) -/

/-- The state of a tag (Table 4-1). -/
inductive TagState where
  | free
  | held
  | quarantined
deriving DecidableEq, Repr

/-- A position of ring A (R79). -/
inductive RingA where
  | requester (r : Fin 8)
  | bSlot
deriving DecidableEq, Repr

/-- The issue unit (R63, R64, R71, R75, R79). A pointer at START is `none`. -/
structure Isu where
  tags : Vector TagState 32
  /-- Q -/
  allowance : Nat
  /-- W -/
  writeOffer : Nat
  sent : BitVec 8
  returned : BitVec 8
  pointerA : Option RingA
  pointerB : Option (Fin 8)
  completionTimeout : BitVec 8
deriving DecidableEq, Repr

/-! ### LTX and LRX (Chapters 5 and 6) -/

/-- A frame of the replay buffer: its number, and its bytes as first sent, CRC included (R105). -/
structure SentFrame where
  number : BitVec 7
  bytes : List Byte
deriving DecidableEq, Repr

/-- The link transmitter (Table 6-1, Table 6-6, R96). A stopped timer is `none`. -/
structure Ltx where
  next : BitVec 7
  /-- oldest first -/
  buffer : List SentFrame
  /-- the position of the running pass -/
  pass : Option (BitVec 7)
  shortRetry : Nat
  longRetry : Nat
  replayTimer : Option Nat
  replayCounter : BitVec 16
  wrapFlag : Bool
  akDue : Bool
  /-- the number recorded when the NK became due -/
  nkDue : Option (BitVec 7)
  replayInterval : BitVec 8
  shortLimit : BitVec 3
  longLimit : BitVec 3
  /-- the index that the next AL carries (R96) -/
  alignIndex : BitVec 8
deriving DecidableEq, Repr

/-- The link receiver (Table 6-4, Table 6-6, R104). -/
structure Lrx where
  expected : BitVec 7
  nakOpen : Bool
  coalescing : Nat
  ackDelayTimer : Option Nat
  lineLossRun : Nat
  ackCount : BitVec 5
  ackDelay : BitVec 6
  lineLossThreshold : BitVec 4
  /-- the bytes of the frame being received, or `none` while waiting for a start marker (R104) -/
  framing : Option (List Byte)
deriving DecidableEq, Repr

/-- What the receive pair carries: a start marker, a byte or idle fill (5.1). -/
inductive LineSymbol where
  | start
  | byte (b : Byte)
  | idleFill
deriving DecidableEq, Repr

/-- What the transmit pair carries: idle fill, or the frame last begun (R89, R99). -/
inductive TxLine where
  | idleFill
  | frame (bytes : List Byte)
deriving DecidableEq, Repr

/-! ### LTC (Chapter 7) -/

/-- The six link states (Table 7-1). -/
inductive LinkState where
  | off
  | seek
  | align
  | exchange
  | active
  | failed
deriving DecidableEq, Repr

/-- Why the link last entered FAILED (Table 7-2). -/
inductive LinkFailure where
  | none
  | trainTimeout
  | replayExhausted
deriving DecidableEq, Repr

/-- The reason of the most recent retrain (Table 7-4). -/
inductive RetrainReason where
  | none
  | software
  | replay
  | lineLoss
  | partner
deriving DecidableEq, Repr

/-- The most recent link command and its outcome (R148). -/
structure CommandStatus where
  code : BitVec 4
  accepted : Bool
deriving DecidableEq, Repr

/-- The link training controller (Table 7-2, Table 7-9). A stopped timer is `none`. -/
structure Ltc where
  link : LinkState
  current : Grade
  staged : Grade
  lastGood : Grade
  trial : Bool
  ourSession : BitVec 4
  partnerSession : BitVec 4
  requestOffer : Nat
  writeOffer : Nat
  attempts : Nat
  skRun : Nat
  alRun : Option (BitVec 8)
  seekTimer : Option Nat
  alignTimer : Option Nat
  failure : LinkFailure
  lastReason : RetrainReason
  command : Option CommandStatus
  seekWindow : BitVec 8
  attemptLimit : BitVec 4
  lockBypass : Bool
  alignCount : BitVec 8
deriving DecidableEq, Repr

/-! ### EVU (Chapter 8) -/

/-- The eight local causes, in rank order (Table 8-2). -/
inductive LocalCause where
  | fault
  | link
  | lapse
  | writesLost
  | timeout
  | late
  | lretry
  | fallback
deriving DecidableEq, Repr

/-- The seventeen kinds of fault report, in code order (Table 8-4). -/
inductive FaultKind where
  | badSize
  | windowMiss
  | readOnlyWrite
  | linkDownRequest
  | lapsedRequest
  | returnMismatch
  | remoteFault
  | unsupported
  | noCompletion
  | badCompletion
  | badTag
  | creditOverrun
  | ackRange
  | unknownEvent
  | writeFault
  | writesLost
  | paramInvalid
deriving DecidableEq, Repr

/-- The content of a filled fault record: a kind and seven optional fields (R165). A field's presence flag is set when
the field is not `none`. -/
structure FaultRecord where
  kind : FaultKind
  requester : Option (Fin 8) := .none
  offset : Option (BitVec 28) := .none
  window : Option (Fin 8) := .none
  entry : Option (Fin 16) := .none
  tag : Option (Fin 32) := .none
  /-- remote address with segment -/
  remote : Option (BitVec 40 × BitVec 2) := .none
  detail : Option (BitVec 16) := .none
deriving DecidableEq, Repr

/-- The event and interrupt unit (Table 8-1). Flags of source n stand at bit n, those of the cause of rank k at bit
k - 1, as the registers show them (Table 9-3). A route bit is 0 for line A and 1 for line B. The pins are true while
the line is asserted, that is driven low. -/
structure Evu where
  remotePending : BitVec 16
  remoteRepeat : Vector Nat 16
  remoteEnable : BitVec 16
  remoteRoute : BitVec 16
  localPending : BitVec 8
  localEnable : BitVec 8
  localRoute : BitVec 8
  fault : Option FaultRecord
  laterCount : Nat
  /-- INTA_N is asserted -/
  intA : Bool
  /-- INTB_N is asserted -/
  intB : Bool
deriving DecidableEq, Repr

/-! ### REG and the connections (Chapter 9) -/

/-- The new-frame policy (Table 3-3). -/
inductive Policy where
  | writesFirst
  | alternate
deriving DecidableEq, Repr

/-- General control and the timebase (R177, R178). `clocksLeft` is the number of host clocks that the tick under way
still has. -/
structure Reg where
  policy : Policy
  intakeHold : Bool
  tbdiv : BitVec 8
  clocksLeft : Nat
deriving DecidableEq, Repr

/-- The answer to a host transfer (Table 9-1). DONE carries the read data, and nothing for a write. -/
inductive Answer where
  | done (data : List Byte)
  | comeback
  | fault
deriving DecidableEq, Repr

/-- The whole part. -/
structure State where
  win : Vector Window 8
  hrt : Hrt
  pwq : Pwq
  isu : Isu
  ltx : Ltx
  lrx : Lrx
  ltc : Ltc
  evu : Evu
  reg : Reg
  /-- the pin RESET_N, true while it is high (R180) -/
  resetN : Bool
  /-- the answer given to the last host transfer, a port of the model (log entry 11) -/
  answer : Option Answer
  /-- the transmit pair (log entry 11) -/
  tx : TxLine
  /-- the receive pair: the symbols not yet taken, first to arrive first (log entry 6) -/
  rxLine : List LineSymbol
  /-- the model's own counter, which the free order of simultaneous events is drawn with (log entry 4) -/
  freeDraws : Nat
  /-- the waiting commands, first in first out -/
  pending : List Instr
deriving DecidableEq, Repr

/-- No command stops the machine: a FAULT of the part is an answer to a host transfer, and the part goes on (R170).
The type has no member, so no claim can be weakened by a stop. Safe. -/
inductive Fault where
deriving DecidableEq, Repr

/-- Why the model has no meaning for a command. -/
inductive Refusal where
  /-- Raised by an arm of `exec` whose command has no meaning yet: by none. Safe, since the model stops there. -/
  | notModelled (mnemonic : String)
deriving DecidableEq, Repr

/-! ### The state after chip reset -/

/-- Table 2-1. -/
def Window.reset : Window := { mode := .off, base := 0, sizeCode := 0, remoteBase := 0, segment := 0 }

/-- Table 1-12. -/
def Requester.reset : Requester := { level := .a, heldLimit := 2, heldCount := 0, discardRun := 0, lapsed := false }

/-- R31. -/
def Hrt.reset : Hrt :=
  { entries := Vector.replicate 16 none
    requesters := Vector.replicate 8 Requester.reset
    discardInterval := 16
    lapseThreshold := 4
    discardCount := 0 }

/-- R62. -/
def Pwq.reset : Pwq := { queue := [], lostWrites := 0, lastContested := .held }

/-- Table 4-7. -/
def Isu.reset : Isu :=
  { tags := Vector.replicate 32 .free
    allowance := 0
    writeOffer := 0
    sent := 0
    returned := 0
    pointerA := none
    pointerB := none
    completionTimeout := 50 }

/-- Table 6-1 and Table 6-6. The align index is a DESIGN CHOICE (log entry 10). -/
def Ltx.reset : Ltx :=
  { next := 0
    buffer := []
    pass := none
    shortRetry := 0
    longRetry := 0
    replayTimer := none
    replayCounter := 0
    wrapFlag := false
    akDue := false
    nkDue := none
    replayInterval := 25
    shortLimit := 2
    longLimit := 3
    alignIndex := 0 }

/-- Table 6-4, Table 6-6 and R104. -/
def Lrx.reset : Lrx :=
  { expected := 0
    nakOpen := false
    coalescing := 0
    ackDelayTimer := none
    lineLossRun := 0
    ackCount := 8
    ackDelay := 8
    lineLossThreshold := 8
    framing := none }

/-- Table 7-2 and Table 7-9. -/
def Ltc.reset : Ltc :=
  { link := .off
    current := .g1
    staged := .g1
    lastGood := .g1
    trial := false
    ourSession := 0
    partnerSession := 0
    requestOffer := 0
    writeOffer := 0
    attempts := 0
    skRun := 0
    alRun := none
    seekTimer := none
    alignTimer := none
    failure := .none
    lastReason := .none
    command := none
    seekWindow := 10
    attemptLimit := 8
    lockBypass := false
    alignCount := 20 }

/-- Table 8-1. -/
def Evu.reset : Evu :=
  { remotePending := 0
    remoteRepeat := Vector.replicate 16 0
    remoteEnable := 0
    remoteRoute := 0
    localPending := 0
    localEnable := 0
    localRoute := 0
    fault := none
    laterCount := 0
    intA := false
    intB := false }

/-- R177 and R178. That the first tick is a full one is a DESIGN CHOICE (log entry 5). -/
def Reg.reset : Reg := { policy := .writesFirst, intakeHold := false, tbdiv := 100, clocksLeft := 100 }

/-- The machine right after chip reset, RESET_N released (R180). -/
def State.reset : State :=
  { win := Vector.replicate 8 Window.reset
    hrt := Hrt.reset
    pwq := Pwq.reset
    isu := Isu.reset
    ltx := Ltx.reset
    lrx := Lrx.reset
    ltc := Ltc.reset
    evu := Evu.reset
    reg := Reg.reset
    resetN := true
    answer := none
    tx := .idleFill
    rxLine := []
    freeDraws := 0
    pending := [] }

end Sys2Proof.Machine
end

