-- ==== Sys2Proof/Machine/Operands.lean ====
section
/-! DEFINITION. The forms of operands: the transfer size rule, the fields of written register values with the values
stored for out-of-range writes, and the codes of Tables 7-3, 8-2, 8-4 and 9-4. -/

namespace Sys2Proof.Machine

/-- The transfer size rule (R35). -/
def sizeRule (offset : BitVec 28) (size : Nat) : Bool :=
  decide (size = 1 ∨ size = 2 ∨ size = 4 ∨ size = 8 ∨ size = 16 ∨ size = 32 ∨ size = 64) && offset.toNat % size == 0

/-- The field of `w` bits whose lowest bit is `lo`. -/
def field (lo w : Nat) (v : Word) : BitVec w := v.extractLsb' lo w

/-- A field placed with its lowest bit at `lo` of a register value. -/
def place {w : Nat} (lo : Nat) (x : BitVec w) : Word := x.setWidth 32 <<< lo

/-- A one-bit field. -/
def flagBit (b : Bool) : BitVec 1 := BitVec.ofBool b

/-- A written 0 is stored as 1 (R28, R71, R127, R155, R178). -/
def atLeastOne {w : Nat} (x : BitVec w) : BitVec w := if x = 0 then 1 else x

/-- Limits of 1 to 4: a written 0 is stored as 1, and 5 to 7 as 4 (R25, R127). -/
def oneToFour (x : BitVec 3) : BitVec 3 := if x = 0 then 1 else if 4 < x then 4 else x

/-- The ack count: 0 is stored as 1, and 17 to 31 as 16 (Table 6-6). -/
def oneToSixteen (x : BitVec 5) : BitVec 5 := if x = 0 then 1 else if 16 < x then 16 else x

/-- The size code: 17 to 31 is stored as 16 (R33). -/
def sizeCodeOf (x : BitVec 5) : Fin 17 := if h : x.toNat < 17 then ⟨x.toNat, h⟩ else 16

/-- The staged grade as written: 0 is stored as 1, and above 4 as 4 (R130). -/
def gradeOfWritten (x : BitVec 3) : Grade :=
  if x = 0 ∨ x = 1 then .g1 else if x = 2 then .g2 else if x = 3 then .g3 else .g4

/-- The number of a grade, 1 to 4. -/
def gradeNumber : Grade → BitVec 3
  | .g1 => 1
  | .g2 => 2
  | .g3 => 3
  | .g4 => 4

/-- A grade as frames carry it, grade - 1 in two bits (R96, R97). -/
def gradeBits : Grade → BitVec 2
  | .g1 => 0
  | .g2 => 1
  | .g3 => 2
  | .g4 => 3

/-- The grade that two bits of a frame carry. -/
def gradeOfBits (x : BitVec 2) : Grade :=
  if x = 0 then .g1 else if x = 1 then .g2 else if x = 2 then .g3 else .g4

/-- Level 0 is A, 1 is B (Table 9-3). -/
def levelOf (x : BitVec 1) : Level := if x = 0 then .a else .b

/-- The bit of a level. -/
def levelBit : Level → BitVec 1
  | .a => 0
  | .b => 1

/-- Mode codes of the window control register (Table 9-3). -/
def modeOf (x : BitVec 2) : WindowMode :=
  if x = 0 then .off else if x = 1 then .posted else if x = 2 then .strict else .readonly

/-- The code of a window mode. -/
def modeCode : WindowMode → BitVec 2
  | .off => 0
  | .posted => 1
  | .strict => 2
  | .readonly => 3

/-- Policy 0 is WRITES_FIRST, 1 is ALTERNATE (Table 9-3). -/
def policyOf (x : BitVec 1) : Policy := if x = 0 then .writesFirst else .alternate

/-- The bit of a policy. -/
def policyBit : Policy → BitVec 1
  | .writesFirst => 0
  | .alternate => 1

/-- Link state codes (Table 9-4). -/
def linkCode : LinkState → BitVec 3
  | .off => 0
  | .seek => 1
  | .align => 2
  | .exchange => 3
  | .active => 4
  | .failed => 5

/-- Failure cause codes of the link status (Table 9-4). -/
def linkFailureCode : LinkFailure → BitVec 2
  | .none => 0
  | .trainTimeout => 1
  | .replayExhausted => 2

/-- Retrain reason codes (Table 9-4). -/
def reasonCode : RetrainReason → BitVec 3
  | .none => 0
  | .software => 1
  | .replay => 2
  | .lineLoss => 3
  | .partner => 4

/-- Entry state codes other than FREE (Table 9-4). -/
def phaseCode : Phase → BitVec 3
  | .queued _ => 1
  | .issued _ _ => 2
  | .ready _ _ => 3
  | .failed _ _ => 4

/-- Entry failure cause codes (Table 9-4). -/
def failCauseCode : FailCause → BitVec 3
  | .remoteFault => 1
  | .unsupported => 2
  | .noCompletion => 3
  | .badCompletion => 4
  | .linkLost => 5

/-- The rank of a local cause (Table 8-2). -/
def causeRank : LocalCause → Nat
  | .fault => 1
  | .link => 2
  | .lapse => 3
  | .writesLost => 4
  | .timeout => 5
  | .late => 6
  | .lretry => 7
  | .fallback => 8

/-- The kind codes of fault reports (Table 8-4). -/
def faultCode : FaultKind → BitVec 5
  | .badSize => 1
  | .windowMiss => 2
  | .readOnlyWrite => 3
  | .linkDownRequest => 4
  | .lapsedRequest => 5
  | .returnMismatch => 6
  | .remoteFault => 7
  | .unsupported => 8
  | .noCompletion => 9
  | .badCompletion => 10
  | .badTag => 11
  | .creditOverrun => 12
  | .ackRange => 13
  | .unknownEvent => 14
  | .writeFault => 15
  | .writesLost => 16
  | .paramInvalid => 17

/-- The detail field of a report holds 16 bits (Table 8-3). -/
def detailOf (n : Nat) : BitVec 16 := BitVec.ofNat 16 n

end Sys2Proof.Machine
end

