-- ==== Sys2Proof/Machine/Flags.lean ====
section
/-! DEFINITION. EVU (Chapter 8): pending flags, the two interrupt lines, identification, and the fault record. Every
operation that can change a line ends with `Evu.drive`. -/

namespace Sys2Proof.Machine

/-- Some pending, enabled cause is routed to line A (R164). -/
def Evu.onLineA (e : Evu) : Bool :=
  e.remotePending &&& e.remoteEnable &&& ~~~e.remoteRoute != 0 || e.localPending &&& e.localEnable &&& ~~~e.localRoute != 0

/-- Some pending, enabled cause is routed to line B (R164). -/
def Evu.onLineB (e : Evu) : Bool :=
  e.remotePending &&& e.remoteEnable &&& e.remoteRoute != 0 || e.localPending &&& e.localEnable &&& e.localRoute != 0

/-- The lines follow the causes in the event that changes them (R164). -/
def Evu.drive (e : Evu) : Evu := { e with intA := e.onLineA, intB := e.onLineB }

/-- The flag of a local cause in the registers of the group (Table 9-3). -/
def causeFlag (c : LocalCause) : BitVec 8 := 1#8 <<< (causeRank c - 1)

/-- A block raises a local cause (R160). -/
def Evu.raise (c : LocalCause) (e : Evu) : Evu := { e with localPending := e.localPending ||| causeFlag c }.drive

/-- A report reaches EVU: it fills an empty record and raises FAULT, or it raises the later count (R166). -/
def Evu.report (r : FaultRecord) (e : Evu) : Evu :=
  match e.fault with
  | none => { e with fault := some r }.raise .fault
  | some _ => { e with laterCount := min 255 (e.laterCount + 1) }

/-- A SIGNAL for source `n` (R156). -/
def Evu.signal (n : Fin 16) (e : Evu) : Evu :=
  if e.remotePending.getLsbD n then
    { e with remoteRepeat := e.remoteRepeat.set n (min 15 (e.remoteRepeat[n] + 1)) }
  else
    { e with remotePending := e.remotePending ||| 1#16 <<< n.val, remoteRepeat := e.remoteRepeat.set n 0 }.drive

/-- The W1C clear of remote sources (R157). -/
def Evu.clearRemote (marks : BitVec 16) (e : Evu) : Evu :=
  { e with
    remotePending := e.remotePending &&& ~~~marks
    remoteRepeat := Vector.ofFn fun n : Fin 16 => if marks.getLsbD n then 0 else e.remoteRepeat[n] }.drive

/-- The W1C clear of local causes (R161). -/
def Evu.clearLocal (marks : BitVec 8) (e : Evu) : Evu := { e with localPending := e.localPending &&& ~~~marks }.drive

/-- A write of the remote enable register (R162). -/
def Evu.setRemoteEnable (v : BitVec 16) (e : Evu) : Evu := { e with remoteEnable := v }.drive

/-- A write of the remote route register (R162). -/
def Evu.setRemoteRoute (v : BitVec 16) (e : Evu) : Evu := { e with remoteRoute := v }.drive

/-- A write of the local enable register (R162). -/
def Evu.setLocalEnable (v : BitVec 8) (e : Evu) : Evu := { e with localEnable := v }.drive

/-- A write of the local route register (R162). -/
def Evu.setLocalRoute (v : BitVec 8) (e : Evu) : Evu := { e with localRoute := v }.drive

/-- Software empties the fault record (R167). The FAULT cause is not changed. -/
def Evu.emptyFault (e : Evu) : Evu := { e with fault := none, laterCount := 0 }

/-- Function reset (R168): enables and routes are kept. -/
def Evu.functionReset (e : Evu) : Evu :=
  { e with
    remotePending := 0
    remoteRepeat := Vector.replicate 16 0
    localPending := 0
    fault := none
    laterCount := 0 }.drive

/-- The identification code: the highest-ranked cause that is pending and enabled, or 0 (R163). -/
def Evu.identification (e : Evu) : BitVec 5 :=
  match (List.finRange 8).find? fun k : Fin 8 => (e.localPending &&& e.localEnable).getLsbD k with
  | some k => BitVec.ofNat 5 (k + 1)
  | none =>
    match (List.finRange 16).find? fun n : Fin 16 => (e.remotePending &&& e.remoteEnable).getLsbD n with
    | some n => BitVec.ofNat 5 (16 + n)
    | none => 0

end Sys2Proof.Machine
end

