-- ==== Sys2Proof/Machine/Frames.lean ====
section
/-! DEFINITION. Link frames (Chapter 5): the CRC, the byte layouts of Table 5-2 for the frames the part sends, and the
delimiting and classing of the frames it receives. -/

namespace Sys2Proof.Machine

/-- One bit enters the CRC register; the polynomial is x^16 + x^12 + x^5 + 1 (R91). -/
def crcBit (r : BitVec 16) (b : Bool) : BitVec 16 := if r.msb != b then (r <<< 1) ^^^ 0x1021#16 else r <<< 1

/-- One byte enters, most significant bit first (R91). -/
def crcByte (r : BitVec 16) (b : Byte) : BitVec 16 := [7, 6, 5, 4, 3, 2, 1, 0].foldl (fun r i => crcBit r (b.getLsbD i)) r

/-- The CRC of byte 0 and the body: the register starts at FFFFH and is not inverted (R91). -/
def crc (bytes : List Byte) : BitVec 16 := bytes.foldl crcByte 0xFFFF#16

/-- The CRC follows the body, most significant byte first (R91, R98). -/
def withCrc (bytes : List Byte) : List Byte :=
  bytes ++ [(crc bytes).extractLsb' 8 8, (crc bytes).extractLsb' 0 8]

/-- Byte 0: the kind code and a kind-specific value (R89). -/
def byte0 (kind low : BitVec 4) : Byte := kind ++ low

/-- A number of seven bits in a byte whose bit 7 is 0 (Table 5-2). -/
def numberByte (n : BitVec 7) : Byte := 0#1 ++ n

/-- The size field: the byte count minus 1, in six bits (R92). -/
def sizeByte (size : Nat) : Byte := 0#2 ++ BitVec.ofNat 6 (size - 1)

/-- A tag in a byte whose bits 7 to 5 are 0 (Table 5-2). -/
def tagByte (t : Fin 32) : Byte := BitVec.ofNat 8 t

/-- The remote address, bits 39 to 32 first (R98). -/
def addressBytes (a : BitVec 40) : List Byte :=
  [a.extractLsb' 32 8, a.extractLsb' 24 8, a.extractLsb' 16 8, a.extractLsb' 8 8, a.extractLsb' 0 8]

/-- PW (Table 5-2). -/
def pwFrame (n : BitVec 7) (w : PostedWrite) : List Byte :=
  withCrc ([byte0 1 (0#2 ++ w.segment), numberByte n, sizeByte w.size] ++ addressBytes w.remote ++ w.data)

/-- HR for an entry of kind READ, HW for one of kind HWRITE (R66, Table 5-2). -/
def requestFrame (n : BitVec 7) (tag : Fin 32) (h : Held) : List Byte :=
  match h.kind with
  | .read => withCrc ([byte0 2 (0#2 ++ h.segment), numberByte n, tagByte tag, sizeByte h.size] ++ addressBytes h.remote)
  | .hwrite data =>
    withCrc ([byte0 3 (0#2 ++ h.segment), numberByte n, tagByte tag, sizeByte h.size] ++ addressBytes h.remote ++ data)

/-- AK (Table 5-2). -/
def akFrame (n : BitVec 7) : List Byte := withCrc [byte0 8 0, numberByte n]

/-- NK (Table 5-2). -/
def nkFrame (n : BitVec 7) : List Byte := withCrc [byte0 9 0, numberByte n]

/-- SK at a grade (R96, Table 5-2). -/
def skFrame (g : Grade) : List Byte := withCrc (byte0 0xC (0#2 ++ gradeBits g) :: Config.skPattern)

/-- AL with an align index (Table 5-2). -/
def alFrame (i : BitVec 8) : List Byte := withCrc [byte0 0xD 0, i]

/-- PM with a session number, a grade and two offers (R97, Table 5-2). -/
def pmFrame (session : BitVec 4) (g : Grade) (requestOffer writeOffer : Byte) : List Byte :=
  withCrc [byte0 0xE session, 0#6 ++ gradeBits g, requestOffer, writeOffer]

/-! ### Receipt -/

/-- Byte `i` of a frame. -/
def byteAt (bytes : List Byte) (i : Nat) : Byte := bytes.getD i 0

/-- The kind code of a frame (R89). -/
def kindCode (bytes : List Byte) : BitVec 4 := (byteAt bytes 0).extractLsb' 4 4

/-- What the bytes received so far say of the end of a frame (R89). -/
inductive Extent where
  /-- the bytes that decide the length have not all arrived -/
  | undecided
  /-- the length cannot be computed (R100) -/
  | lost
  /-- the whole length in bytes, CRC included -/
  | length (n : Nat)
deriving DecidableEq, Repr

/-- The size that a six-bit size field means (R92). -/
def sizeOfByte (b : Byte) : Nat := (b.extractLsb' 0 6).toNat + 1

/-- The length of a frame from its kind code and, where needed, its length-bearing field (R89, Table 5-2, Table 5-3). -/
def extent (bytes : List Byte) : Extent :=
  if bytes.length = 0 then .undecided
  else
    match (kindCode bytes).toNat with
    | 0x1 => if bytes.length ≤ 2 then .undecided else .length (sizeOfByte (byteAt bytes 2) + 10)
    | 0x2 => .length 11
    | 0x3 => if bytes.length ≤ 3 then .undecided else .length (sizeOfByte (byteAt bytes 3) + 11)
    | 0x4 =>
      if bytes.length ≤ 3 then .undecided
      else if 64 < (byteAt bytes 3).toNat then .lost
      else .length ((byteAt bytes 3).toNat + 6)
    | 0x5 => .length 11
    | 0x8 => .length 4
    | 0x9 => .length 4
    | 0xA => .length 4
    | 0xC => .length 9
    | 0xD => .length 4
    | 0xE => .length 6
    | _ => .lost

/-- The body of a frame with byte 0, without its CRC. -/
def bodyOf (bytes : List Byte) : List Byte := bytes.take (bytes.length - 2)

/-- The frame passes the CRC check (R91). -/
def crcPasses (bytes : List Byte) : Bool := withCrc (bodyOf bytes) == bytes

/-- A number of seven bits; bit 7 is ignored (R98). -/
def numberOf (b : Byte) : BitVec 7 := b.extractLsb' 0 7

/-- A tag of five bits; bits 7 to 5 are ignored (R98). -/
def tagOf (b : Byte) : Fin 32 := (b.extractLsb' 0 5).toFin

/-- The status of a completion, none for the unassigned code 3 (R93). -/
def statusOf (x : BitVec 2) : Option CpStatus :=
  if x = 0 then some .ok else if x = 1 then some .remoteFault else if x = 2 then some .unsupported else none

/-- The command that a whole frame arrives as: its class (Table 5-3, in that order) and, when it is accepted, its kind
and its fields (Table 5-2). -/
def commandOf (bytes : List Byte) : Instr :=
  if !crcPasses bytes then .corruptFrameReceived
  else
    match (kindCode bytes).toNat with
    | 0x4 =>
      match statusOf ((byteAt bytes 0).extractLsb' 0 2) with
      | some status =>
        .cpReceived (numberOf (byteAt bytes 1)) (tagOf (byteAt bytes 2)) status ((bodyOf bytes).drop 4)
      | none => .rejectedFrameReceived
    | 0x5 =>
      .evReceived (numberOf (byteAt bytes 1)) ((byteAt bytes 0).extractLsb' 0 4)
        (Vector.ofFn fun i : Fin 7 => byteAt bytes (2 + i))
    | 0x8 => .akReceived (numberOf (byteAt bytes 1))
    | 0x9 => .nkReceived (numberOf (byteAt bytes 1))
    | 0xA => .crReceived (byteAt bytes 1)
    | 0xC =>
      if (bodyOf bytes).drop 1 = Config.skPattern then .skReceived (gradeOfBits ((byteAt bytes 0).extractLsb' 0 2))
      else .rejectedFrameReceived
    | 0xD => .alReceived (byteAt bytes 1)
    | 0xE =>
      .pmReceived ((byteAt bytes 0).extractLsb' 0 4) (gradeOfBits ((byteAt bytes 1).extractLsb' 0 2))
        (byteAt bytes 2) (byteAt bytes 3)
    | 0x1 => .rejectedFrameReceived
    | 0x2 => .rejectedFrameReceived
    | 0x3 => .rejectedFrameReceived
    | _ => .corruptFrameReceived

/-- The receiver takes one symbol: the framing state after it, and the command of a frame that ends with it (R89, R104).
A start marker inside a frame truncates it. A frame whose length cannot be computed is classed at the byte that shows
it (log entry 7). Idle fill changes nothing (log entry 6). -/
def receiveSymbol (framing : Option (List Byte)) : LineSymbol → Option (List Byte) × Option Instr
  | .start => (some [], if framing.isSome then some .corruptFrameReceived else none)
  | .idleFill => (framing, none)
  | .byte b =>
    match framing with
    | none => (none, none)
    | some bytes =>
      match extent (bytes ++ [b]) with
      | .undecided => (some (bytes ++ [b]), none)
      | .lost => (none, some .corruptFrameReceived)
      | .length n =>
        if (bytes ++ [b]).length < n then (some (bytes ++ [b]), none) else (none, some (commandOf (bytes ++ [b])))

end Sys2Proof.Machine
end

