-- ==== Sys2Proof/Machine/HeldTable.lean ====
section
/-! DEFINITION. HRT (Chapter 1): the held entries, the requester table, and every change an event makes to them. -/

namespace Sys2Proof.Machine

/-- The direction of the transfer that a kind matches (R6). -/
def HeldKind.direction : HeldKind → Direction
  | .read => .read
  | .hwrite _ => .write

/-- The key of a transfer (R6). -/
def Transfer.key (x : Transfer) : Key :=
  { requester := x.requester, direction := x.direction, offset := x.offset, size := x.size }

/-- The key of an entry (R2). -/
def Held.key (h : Held) : Key :=
  { requester := h.requester, direction := h.kind.direction, offset := h.offset, size := h.size }

/-- The entry is QUEUED. -/
def Held.isQueued (h : Held) : Bool :=
  match h.phase with
  | .queued _ => true
  | _ => false

/-- The entry is QUEUED or ISSUED: its outcome is still open. -/
def Held.inFlight (h : Held) : Bool :=
  match h.phase with
  | .queued _ | .issued _ _ => true
  | .ready _ _ | .failed _ _ => false

/-- The entry holds this tag. -/
def Held.holdsTag (tag : Fin 32) (h : Held) : Bool :=
  match h.phase with
  | .issued t _ => t == tag
  | _ => false

/-- The ticks that a discard timer started now will count: the discard interval in units of 64 (R22). -/
def Hrt.discardTicks (t : Hrt) : Nat := t.discardInterval.toNat * 64

/-- The entry that holds a key, with its number (R6). No two entries share a key (R2). -/
def Hrt.entryWithKey (k : Key) (t : Hrt) : Option (Fin 16 × Held) :=
  (List.finRange 16).findSome? fun e =>
    match t.entries[e] with
    | some h => if h.key = k then some (e, h) else none
    | none => none

/-- The entry that holds a tag, with its number (R68). -/
def Hrt.entryWithTag (tag : Fin 32) (t : Hrt) : Option (Fin 16 × Held) :=
  (List.finRange 16).findSome? fun e =>
    match t.entries[e] with
    | some h => if h.holdsTag tag then some (e, h) else none
    | none => none

/-- The lowest-numbered FREE entry (R16). -/
def Hrt.lowestFree (t : Hrt) : Option (Fin 16) := (List.finRange 16).find? fun e => t.entries[e].isNone

/-- Changes the record of one requester. -/
def Hrt.setRequester (r : Fin 8) (f : Requester → Requester) (t : Hrt) : Hrt :=
  { t with requesters := t.requesters.set r (f t.requesters[r]) }

/-- Changes one entry that is not FREE; nothing happens to one that is. -/
def Hrt.setHeld (e : Fin 16) (f : Held → Held) (t : Hrt) : Hrt :=
  { t with entries := t.entries.set e (t.entries[e].map f) }

/-- A younger entry of the same requester moves up one position when `gone` leaves the order (R3). -/
def Held.moveUp (gone h : Held) : Held :=
  if h.requester = gone.requester ∧ gone.order < h.order then { h with order := h.order - 1 } else h

/-- An entry becomes FREE: it leaves its requester's order, and the held count falls by 1 (R3). -/
def Hrt.free (e : Fin 16) (t : Hrt) : Hrt :=
  match t.entries[e] with
  | none => t
  | some gone =>
    { t with
      entries := Vector.ofFn fun i : Fin 16 => if i = e then none else t.entries[i].map gone.moveUp
      requesters := t.requesters.set gone.requester
        { t.requesters[gone.requester] with heldCount := t.requesters[gone.requester].heldCount - 1 } }

/-- A return collects the outcome of an entry: it becomes FREE and the discard run goes to 0 (R8, R9). -/
def Hrt.collect (e : Fin 16) (r : Fin 8) (t : Hrt) : Hrt :=
  (t.free e).setRequester r fun q => { q with discardRun := 0 }

/-- The record of a requester after one of its entries is discarded: the run rises, stopping at 15, and a run that
reaches a threshold that is not 0 lapses the requester (R23). -/
def Requester.afterDiscard (threshold : BitVec 4) (q : Requester) : Requester :=
  let run := min 15 (q.discardRun + 1)
  { q with discardRun := run, lapsed := q.lapsed || (threshold != 0 && decide (threshold.toNat ≤ run)) }

/-- An entry is discarded (R23). -/
def Hrt.discard (e : Fin 16) (r : Fin 8) (t : Hrt) : Hrt :=
  let u := (t.free e).setRequester r (Requester.afterDiscard t.lapseThreshold)
  { u with discardCount := min 65535 (u.discardCount + 1) }

/-- The kind of the entry that a transfer creates (R16). -/
def Transfer.heldKind (x : Transfer) : HeldKind :=
  match x.direction with
  | .read => .read
  | .write => .hwrite x.data

/-- The entry that a transfer creates, with its translation and the writes ahead of it (R16). -/
def Transfer.newEntry (x : Transfer) (hit : Hit) (order writesAhead : Nat) : Held :=
  { kind := x.heldKind
    requester := x.requester
    offset := x.offset
    size := x.size
    window := hit.window
    remote := hit.remote
    segment := hit.segment
    order := order
    phase := .queued writesAhead }

/-- Creation in entry `e`, last in the requester's order (R16). -/
def Hrt.create (e : Fin 16) (x : Transfer) (hit : Hit) (writesAhead : Nat) (t : Hrt) : Hrt :=
  let q := t.requesters[x.requester]
  { t with
    entries := t.entries.set e (some (x.newEntry hit (q.heldCount + 1) writesAhead))
    requesters := t.requesters.set x.requester { q with heldCount := q.heldCount + 1 } }

/-- A requester is at its held limit (R15). -/
def Requester.atLimit (q : Requester) : Bool := decide (q.heldLimit.toNat ≤ q.heldCount)

/-- The writes-ahead count after a departure (R18). -/
def Held.afterDeparture (h : Held) : Held :=
  match h.phase with
  | .queued n => { h with phase := .queued (n - 1) }
  | _ => h

/-- A posted write departs: every count above 0 falls by 1 (R18). -/
def Hrt.departure (t : Hrt) : Hrt :=
  { t with entries := Vector.ofFn fun i : Fin 16 => t.entries[i].map Held.afterDeparture }

/-- The QUEUED entries of a requester, in entry order. -/
def Hrt.queuedOf (r : Fin 8) (t : Hrt) : List (Fin 16 × Held) :=
  (List.finRange 16).filterMap fun e =>
    match t.entries[e] with
    | some h => if h.requester = r && h.isQueued then some (e, h) else none
    | none => none

/-- The member of lowest creation order. -/
def oldestOf : List (Fin 16 × Held) → Option (Fin 16 × Held)
  | [] => none
  | x :: xs =>
    match oldestOf xs with
    | none => some x
    | some y => if x.2.order ≤ y.2.order then some x else some y

/-- A requester's candidate for issue: its oldest QUEUED entry (R19). -/
def Hrt.candidate (r : Fin 8) (t : Hrt) : Option (Fin 16 × Held) := oldestOf (t.queuedOf r)

/-- A requester is eligible when its candidate has a writes-ahead count of 0 (R19, R80). -/
def Hrt.eligible (t : Hrt) (r : Fin 8) : Bool :=
  match t.candidate r with
  | some (_, h) => h.phase == .queued 0
  | none => false

/-- Issue: the entry becomes ISSUED with a tag, and its completion timer starts (R19). -/
def Hrt.issue (e : Fin 16) (tag : Fin 32) (ticks : Nat) (t : Hrt) : Hrt :=
  t.setHeld e fun h => { h with phase := .issued tag ticks }

/-- The data length that a completion should have (R20). -/
def Held.expectedLength (h : Held) (status : CpStatus) : Nat :=
  match h.kind, status with
  | .read, .ok => h.size
  | _, _ => 0

/-- The failure cause that a completion gives an entry, or none for an outcome of READY (Table 1-11). -/
def Held.completionCause (h : Held) (status : CpStatus) (data : List Byte) : Option FailCause :=
  if data.length ≠ h.expectedLength status then some .badCompletion
  else
    match status with
    | .ok => none
    | .remoteFault => some .remoteFault
    | .unsupported => some .unsupported

/-- The read data of a READY entry: the delivered data for a READ, none for an HWRITE (R20). -/
def HeldKind.outcomeData (k : HeldKind) (data : List Byte) : Option (List Byte) :=
  match k with
  | .read => some data
  | .hwrite _ => none

/-- The entry after a delivered completion (R20). -/
def Held.completed (h : Held) (status : CpStatus) (data : List Byte) (ticks : Nat) : Held :=
  match h.completionCause status data with
  | none => { h with phase := .ready (h.kind.outcomeData data) ticks }
  | some c => { h with phase := .failed c ticks }

/-- The entry fails, and its discard timer starts (R21, R22, R29). -/
def Held.fail (c : FailCause) (ticks : Nat) (h : Held) : Held := { h with phase := .failed c ticks }

/-- Teardown fails a QUEUED or ISSUED entry with LINK_LOST and keeps the others (R29). -/
def Held.afterTeardown (ticks : Nat) (h : Held) : Held := if h.inFlight then h.fail .linkLost ticks else h

/-- HRT's part of teardown (R29). -/
def Hrt.teardown (t : Hrt) : Hrt :=
  { t with entries := Vector.ofFn fun i : Fin 16 => t.entries[i].map (Held.afterTeardown t.discardTicks) }

/-- A requester record after function reset (R30). -/
def Requester.functionReset (q : Requester) : Requester := { q with heldCount := 0, discardRun := 0, lapsed := false }

/-- HRT's part of function reset (R30). -/
def Hrt.functionReset (t : Hrt) : Hrt :=
  { t with
    entries := Vector.replicate 16 none
    requesters := Vector.ofFn fun r : Fin 8 => t.requesters[r].functionReset
    discardCount := 0 }

/-- A software write of a requester record (R25). -/
def Requester.write (level : Level) (limit : BitVec 3) (clearLapse : Bool) (q : Requester) : Requester :=
  { q with
    level := level
    heldLimit := oneToFour limit
    discardRun := if clearLapse then 0 else q.discardRun
    lapsed := if clearLapse then false else q.lapsed }

/-- No entry is QUEUED or ISSUED (R181). -/
def Hrt.noneInFlight (t : Hrt) : Bool :=
  (List.finRange 16).all fun e =>
    match t.entries[e] with
    | some h => !h.inFlight
    | none => true

/-- The timer of an entry counts one tick (R178). DESIGN CHOICE (log entry 23): the tick under way when the timer starts
(R22, R71) is the first that it counts. -/
def Held.tick (h : Held) : Held :=
  match h.phase with
  | .queued _ => h
  | .issued t n => { h with phase := .issued t (n - 1) }
  | .ready d n => { h with phase := .ready d (n - 1) }
  | .failed c n => { h with phase := .failed c (n - 1) }

/-- The timers of all entries count one tick (R178). -/
def Hrt.tick (t : Hrt) : Hrt := { t with entries := Vector.ofFn fun i : Fin 16 => t.entries[i].map Held.tick }

end Sys2Proof.Machine
end

