-- ==== Sys2Proof/Machine/TagPool.lean ====
section
/-! DEFINITION. ISU (Chapter 4): the tag pool, write credits and the issue arbiter. -/

namespace Sys2Proof.Machine

/-- The lowest-numbered FREE tag below Q (R65). -/
def Isu.lowestFreeTag (u : Isu) : Option (Fin 32) :=
  (List.finRange 32).find? fun t : Fin 32 => u.tags[t] == .free && decide (t.val < u.allowance)

/-- The number of FREE tags below Q (R88). -/
def Isu.freeTags (u : Isu) : Nat :=
  ((List.finRange 32).filter fun t : Fin 32 => u.tags[t] == .free && decide (t.val < u.allowance)).length

/-- Sets the state of a tag. -/
def Isu.setTag (t : Fin 32) (x : TagState) (u : Isu) : Isu := { u with tags := u.tags.set t x }

/-- Credits in use: (sent - returned) mod 256 (R75). -/
def Isu.creditsInUse (u : Isu) : Nat := (u.sent - u.returned).toNat

/-- Credits available: W minus the credits in use (R75). -/
def Isu.creditsAvailable (u : Isu) : Nat := u.writeOffer - u.creditsInUse

/-- The advance of a CR frame (R77). -/
def Isu.advance (total : BitVec 8) (u : Isu) : Nat := (total - u.returned).toNat

/-- The ticks that a completion timer started now will count: 1,000 for each millisecond (R71). -/
def Isu.completionTicks (u : Isu) : Nat := u.completionTimeout.toNat * 1000

/-- A departure increments the sent total (R76). -/
def Isu.departure (u : Isu) : Isu := { u with sent := u.sent + 1 }

/-- ISU's part of teardown (R86). -/
def Isu.teardown (u : Isu) : Isu :=
  { u with tags := Vector.replicate 32 .free, allowance := 0, writeOffer := 0, sent := 0, returned := 0 }

/-- ISU's part of function reset (R87). -/
def Isu.functionReset (u : Isu) : Isu := { u.teardown with pointerA := none, pointerB := none }

/-- ISU's part of a session start (R84). -/
def Isu.sessionStart (q w : Nat) (u : Isu) : Isu :=
  { u with allowance := q, writeOffer := w, sent := 0, returned := 0 }

/-- Ring A: requester positions 0 to 7, then the B-slot (R79). -/
def ringA : List RingA := (List.finRange 8).map .requester ++ [.bSlot]

/-- Ring B: requester positions 0 to 7 (R79). -/
def ringB : List (Fin 8) := List.finRange 8

/-- The order in which a ring is searched: from the position after the pointer round to the pointer itself, and from
the first position when the pointer is START (R81, R82). -/
def searchOrder {α : Type} [DecidableEq α] (ring : List α) : Option α → List α
  | none => ring
  | some p => (ring.dropWhile (· != p)).tail ++ ring.takeWhile (· != p) ++ ring.filter (· == p)

/-- A requester is a member of ring B with an eligible candidate. -/
def Hrt.eligibleB (t : Hrt) (r : Fin 8) : Bool := t.requesters[r].level == .b && t.eligible r

/-- A position of ring A is an eligible member: a level-A requester that is eligible, or the B-slot when a level-B
requester is eligible (R79, R80). -/
def Hrt.eligibleA (t : Hrt) : RingA → Bool
  | .requester r => t.requesters[r].level == .a && t.eligible r
  | .bSlot => ringB.any t.eligibleB

/-- The requester granted, with the pointers after the grant (R81, R82). -/
structure Grant where
  requester : Fin 8
  pointerA : Option RingA
  pointerB : Option (Fin 8)
deriving DecidableEq, Repr

/-- The issue arbiter (R81, R82). -/
def grant (t : Hrt) (u : Isu) : Option Grant :=
  match (searchOrder ringA u.pointerA).find? t.eligibleA with
  | some (.requester r) => some { requester := r, pointerA := some (.requester r), pointerB := u.pointerB }
  | some .bSlot =>
    ((searchOrder ringB u.pointerB).find? t.eligibleB).map fun r =>
      { requester := r, pointerA := some .bSlot, pointerB := some r }
  | none => none

end Sys2Proof.Machine
end

