-- ==== Sys2Proof/Machine/Windows.lean ====
section
/-! DEFINITION. WIN (Chapter 2): effective bases, decode and translation, and the writes of the window registers. -/

namespace Sys2Proof.Machine

/-- The number of low bits that a window's size ignores: the size is 4 KiB × 2^c (R32, R34). -/
def Window.lowBits (w : Window) : Nat := 12 + w.sizeCode

/-- The size of a window in bytes (Table 2-2). -/
def Window.size (w : Window) : Nat := 2 ^ w.lowBits

/-- The written base rounded down to a multiple of the size (R34). -/
def Window.effectiveBase (w : Window) : BitVec 28 := (w.base >>> w.lowBits) <<< w.lowBits

/-- The written remote base rounded down to a multiple of the size (R34). -/
def Window.effectiveRemote (w : Window) : BitVec 40 := (w.remoteBase >>> w.lowBits) <<< w.lowBits

/-- A window matches a transfer by its offset alone (R36). -/
def Window.covers (w : Window) (offset : BitVec 28) : Bool :=
  w.mode != .off && decide (w.effectiveBase.toNat ≤ offset.toNat) &&
    decide (offset.toNat < w.effectiveBase.toNat + w.size)

/-- The remote address of an offset that the window covers (R37). -/
def Window.translate (w : Window) (offset : BitVec 28) : BitVec 40 :=
  w.effectiveRemote + (offset - w.effectiveBase).setWidth 40

/-- The decode of an offset: the lowest-numbered window that matches, or a miss (R36, R37). -/
def decodeOffset (win : Vector Window 8) (offset : BitVec 28) : Option Hit :=
  ((List.finRange 8).find? fun w => win[w].covers offset).map fun w =>
    { window := w, mode := win[w].mode, remote := win[w].translate offset, segment := win[w].segment }

/-- A write of the window control register sets mode, segment and size code together (R33). -/
def Window.writeControl (v : Word) (w : Window) : Window :=
  { w with mode := modeOf (field 0 2 v), segment := field 4 2 v, sizeCode := sizeCodeOf (field 8 5 v) }

/-- A write of the window base register (R33). -/
def Window.writeBase (v : Word) (w : Window) : Window := { w with base := field 0 28 v }

/-- A write of the remote base low register (R33). -/
def Window.writeRemoteLow (v : Word) (w : Window) : Window :=
  { w with remoteBase := w.remoteBase.extractLsb' 32 8 ++ v }

/-- A write of the remote base high register (R33). -/
def Window.writeRemoteHigh (v : Word) (w : Window) : Window :=
  { w with remoteBase := field 0 8 v ++ w.remoteBase.extractLsb' 0 32 }

end Sys2Proof.Machine
end

