-- ==== Sys2Proof/Machine/Ops.lean ====
section
/-! DEFINITION. The operations that several commands share: reports and causes, retrain, fresh start, teardown, entry to
FAILED and to ACTIVE, replay, bad frames, the sequence check, and the link commands. -/

namespace Sys2Proof.Machine

/-! ### Power, answers, causes and reports -/

/-- An event of the part acts while RESET_N is high. While it is low every item holds its chip reset value (R180). -/
def State.powered (f : State → State) (s : State) : Host.Outcome State Fault Refusal :=
  .next (if s.resetN then f s else s)

/-- The answer given to a host transfer (R170). -/
def State.answered (a : Answer) (s : State) : State := { s with answer := some a }

/-- A host transfer acts while RESET_N is high; while it is low it is answered FAULT and changes nothing (R180). -/
def State.hostTransfer (f : State → State) (s : State) : Host.Outcome State Fault Refusal :=
  .next (if s.resetN then f s else s.answered .fault)

/-- A taken register write acts and is answered DONE (R172). -/
def State.takenWrite (f : State → State) (s : State) : Host.Outcome State Fault Refusal :=
  s.hostTransfer fun s => (f s).answered (.done [])

/-- A block raises a local cause (R160). -/
def State.raise (c : LocalCause) (s : State) : State := { s with evu := s.evu.raise c }

/-- A block makes a fault report (R166). -/
def State.report (r : FaultRecord) (s : State) : State := { s with evu := s.evu.report r }

/-- The report that HRT makes for an entry that fails (R20, R21). -/
def heldReport (kind : FaultKind) (e : Fin 16) (h : Held) (tag : Fin 32) (detail : Option (BitVec 16)) : FaultRecord :=
  { kind := kind
    requester := some h.requester
    offset := some h.offset
    window := some h.window
    entry := some e
    tag := some tag
    remote := some (h.remote, h.segment)
    detail := detail }

/-! ### Training starts, retrain and fresh start (7.3) -/

/-- The ticks of the seek window in force, in units of 100 (R136). -/
def Ltc.seekTicks (c : Ltc) : Nat := c.seekWindow.toNat * 100

/-- The runs, the attempt count and the align count timer are cleared. -/
def Ltc.clearRuns (c : Ltc) : Ltc := { c with attempts := 0, skRun := 0, alRun := none, alignTimer := none }

/-- A training start (R134). -/
def Ltc.trainingStart (c : Ltc) : Ltc :=
  { c.clearRuns with current := c.staged, trial := c.trial || c.staged != c.current, seekTimer := some c.seekTicks }

/-- Our session number advances: from 15 to 1, otherwise by 1 (R132). -/
def nextSession (n : BitVec 4) : BitVec 4 := if n = 15 then 1 else n + 1

/-- A fresh start in LTC (R132). -/
def Ltc.freshStart (c : Ltc) : Ltc :=
  { c.trainingStart with link := .seek, ourSession := nextSession c.ourSession, partnerSession := 0 }

/-- A fresh start (R132). -/
def State.freshStart (s : State) : State := { s with ltc := s.ltc.freshStart }

/-- LTX's part of leaving ACTIVE for a retrain (R116). -/
def Ltx.leaveActive (x : Ltx) : Ltx := { x with pass := none, replayTimer := none, akDue := false, nkDue := none }

/-- LRX's part of leaving ACTIVE for a retrain (R126). -/
def Lrx.leaveActive (x : Lrx) : Lrx := { x with ackDelayTimer := none }

/-- A retrain in LTC (R133). -/
def Ltc.retrain (reason : RetrainReason) (c : Ltc) : Ltc :=
  { c.trainingStart with link := .seek, lastReason := reason }

/-- A request for a retrain: in ACTIVE it makes the retrain, in any other state it is ignored (R133, R145). -/
def State.retrain (reason : RetrainReason) (s : State) : State :=
  if s.ltc.link = .active then
    { s with ltc := s.ltc.retrain reason, ltx := s.ltx.leaveActive, lrx := s.lrx.leaveActive }
  else s

/-! ### Teardown (7.11) and what follows it -/

/-- LTX's part of teardown (R118). -/
def Ltx.teardown (x : Ltx) : Ltx :=
  { x with
    buffer := [], pass := none, shortRetry := 0, longRetry := 0, replayTimer := none, akDue := false, nkDue := none }

/-- LRX's part of teardown (R126). -/
def Lrx.teardown (x : Lrx) : Lrx :=
  { x with expected := 0, nakOpen := false, coalescing := 0, ackDelayTimer := none, lineLossRun := 0 }

/-- LTC's part of teardown (R153). -/
def Ltc.teardown (c : Ltc) : Ltc := { c.clearRuns with partnerSession := 0, requestOffer := 0, writeOffer := 0 }

/-- PWQ's part of teardown: the writes dropped are counted as lost (R58). -/
def Pwq.teardown (q : Pwq) : Pwq := { q with queue := [], lostWrites := min 65535 (q.lostWrites + q.queue.length) }

/-- The cause and the report of the writes dropped at a teardown, when there are any (R58). -/
def Evu.writesDropped (n : Nat) (e : Evu) : Evu :=
  if n = 0 then e else (e.raise .writesLost).report { kind := .writesLost, detail := some (detailOf n) }

/-- Teardown (R152, R153). -/
def State.teardown (s : State) : State :=
  { s with
    hrt := s.hrt.teardown
    pwq := s.pwq.teardown
    isu := s.isu.teardown
    ltx := s.ltx.teardown
    lrx := s.lrx.teardown
    ltc := s.ltc.teardown
    evu := s.evu.writesDropped s.pwq.queue.length }

/-- The entry to FAILED (R146). The transmit pair carries idle fill from here on (R99): the frame begun before has been sent
to its end, since frames take no time in the model (log entry 14). -/
def State.enterFailed (cause : LinkFailure) (s : State) : State :=
  let t := s.teardown
  { t with ltc := { t.ltc with link := .failed, failure := cause, seekTimer := none }, tx := .idleFill }.raise .link

/-- LTX asks LTC to fail with REPLAY_EXHAUSTED (R114); outside ACTIVE the request is ignored (R145). -/
def State.failRequest (s : State) : State :=
  if s.ltc.link = .active then s.enterFailed .replayExhausted else s

/-- An accepted DISABLE (R151). The transmit pair carries idle fill from here on, as at an entry to FAILED (R99, log
entry 14). -/
def State.disable (s : State) : State :=
  let t := s.teardown
  { t with ltc := { t.ltc with link := .off, seekTimer := none }, tx := .idleFill }.raise .link

/-! ### Entries to ALIGN, EXCHANGE and ACTIVE -/

/-- The entry to ALIGN (R138, R139). The next AL carries index 0 (R96). -/
def State.enterAlign (s : State) : State :=
  { s with
    ltc := { s.ltc with
      link := .align
      alRun := none
      alignTimer := if s.ltc.lockBypass then some s.ltc.alignCount.toNat else none }
    ltx := { s.ltx with alignIndex := 0 } }

/-- Lock: the state becomes EXCHANGE, and the align count timer stops (R138, R139). -/
def State.enterExchange (s : State) : State := { s with ltc := { s.ltc with link := .exchange, alignTimer := none } }

/-- LTC's part of an entry to ACTIVE (R143). -/
def Ltc.enterActive (c : Ltc) : Ltc :=
  { c with
    link := .active, lastGood := c.current, trial := false, seekTimer := none, attempts := 0, skRun := 0, alRun := none }

/-- LRX's part of every entry to ACTIVE (R126). -/
def Lrx.enterActive (x : Lrx) : Lrx :=
  { x with nakOpen := false, coalescing := 0, ackDelayTimer := none, lineLossRun := 0 }

/-- The number of the oldest frame of the replay buffer. -/
def Ltx.oldest (x : Ltx) : Option (BitVec 7) := x.buffer.head?.map SentFrame.number

/-- A pass starts at the oldest frame; the replay counter rises by 1, and its wrap sets the flag (R108, R115). -/
def Ltx.startPass (x : Ltx) : Ltx :=
  { x with
    pass := x.oldest
    replayCounter := x.replayCounter + 1
    wrapFlag := x.wrapFlag || x.replayCounter == 0xFFFF#16 }

/-- LTX's part of the return to ACTIVE after a retrain: a pass over the frames that are left, and an AK due
(R117, R126). -/
def Ltx.returnToActive (x : Ltx) : Ltx :=
  let y := { x with shortRetry := 0, replayTimer := none, akDue := true }
  if x.buffer.isEmpty then y else y.startPass

/-- LTX's part of a session start (R118, R126). -/
def Ltx.sessionStart (x : Ltx) : Ltx :=
  { x with next := 0, pass := none, shortRetry := 0, replayTimer := none, akDue := true }

/-- The entry to ACTIVE that starts a session with the PM's session number and offers (R141, R143). -/
def State.startSession (session : BitVec 4) (q w : Nat) (s : State) : State :=
  { s with
    ltc := { s.ltc with partnerSession := session, requestOffer := q, writeOffer := w }.enterActive
    isu := s.isu.sessionStart q w
    ltx := s.ltx.sessionStart
    lrx := { s.lrx with expected := 0 }.enterActive
    evu := s.evu.raise .link }

/-- The entry to ACTIVE at the end of a retrain whose session matches (R142, R143). -/
def State.resumeSession (s : State) : State :=
  { s with
    ltc := s.ltc.enterActive
    ltx := s.ltx.returnToActive
    lrx := s.lrx.enterActive
    evu := s.evu.raise .link }

/-! ### Acknowledgement and replay (6.1) -/

/-- The ticks of the replay interval in force, in units of 4 (R111). -/
def Ltx.replayTicks (x : Ltx) : Nat := x.replayInterval.toNat * 4

/-- The three cases of R109 for a number received in an AK or a NK. -/
inductive AckClass where
  | progress
  | stale
  | outOfRange
deriving DecidableEq, Repr

/-- The case of an acknowledged number (R109). -/
def Ltx.ackClass (n : BitVec 7) (x : Ltx) : AckClass :=
  if x.buffer.any fun f => f.number == n then .progress
  else if n = x.oldest.getD x.next - 1 then .stale
  else .outOfRange

/-- The position of a pass after frames left the buffer: a freed frame is skipped (R108). -/
def passAfter (buffer : List SentFrame) (p : BitVec 7) : Option (BitVec 7) :=
  if buffer.any fun f => f.number == p then some p else buffer.head?.map SentFrame.number

/-- Progress: the frames up to the number leave the buffer (R109). DESIGN CHOICE (log entry 24): when frames remain the
replay timer restarts at every progress, also at one during the first pass after a return to ACTIVE, where one bullet of
R111 restarts it and another keeps it stopped until that pass ends. -/
def Ltx.progress (n : BitVec 7) (x : Ltx) : Ltx :=
  let rest := (x.buffer.dropWhile fun f => f.number != n).tail
  { x with
    buffer := rest
    shortRetry := 0
    longRetry := 0
    replayTimer := if rest.isEmpty then none else some x.replayTicks
    pass := x.pass.bind (passAfter rest) }

/-- An acknowledged number is taken (R109). -/
def State.acknowledge (n : BitVec 7) (s : State) : State :=
  match s.ltx.ackClass n with
  | .progress => { s with ltx := s.ltx.progress n }
  | .stale => s
  | .outOfRange => s.report { kind := .ackRange, detail := some (detailOf n.toNat) }

/-- A long retry is due (R113). -/
def State.longRetryDue (s : State) : State :=
  if s.ltx.longRetry < s.ltx.longLimit.toNat then
    ({ s with ltx := { s.ltx with longRetry := s.ltx.longRetry + 1 } }.raise .lretry).retrain .replay
  else s.failRequest

/-- A replay is due (R112). -/
def State.replayDue (s : State) : State :=
  if s.ltx.shortRetry < s.ltx.shortLimit.toNat then
    { s with ltx := { s.ltx with shortRetry := s.ltx.shortRetry + 1 }.startPass }
  else s.longRetryDue

/-! ### The receive side (6.3) -/

/-- The last good number (R119). -/
def Lrx.lastGood (x : Lrx) : BitVec 7 := x.expected - 1

/-- A rejected or accepted frame in ACTIVE ends the line-loss run (R125). -/
def State.goodFrame (s : State) : State := { s with lrx := { s.lrx with lineLossRun := 0 } }

/-- A bad frame in ACTIVE: a NK becomes due and an episode opens, if none is open (R123). -/
def State.badFrame (s : State) : State :=
  if s.lrx.nakOpen then s
  else { s with lrx := { s.lrx with nakOpen := true }, ltx := { s.ltx with nkDue := some s.lrx.lastGood } }

/-- LRX's part of the delivery of the expected frame (R121). -/
def Lrx.deliver (x : Lrx) : Lrx :=
  { x with
    expected := x.expected + 1
    nakOpen := false
    coalescing := min 16 (x.coalescing + 1)
    ackDelayTimer := if x.coalescing = 0 then some x.ackDelay.toNat else x.ackDelayTimer }

/-- The delivery of the expected frame, with an AK due when the count reaches the ack count (R121). -/
def State.delivered (s : State) : State :=
  { s with
    lrx := s.lrx.deliver
    ltx := { s.ltx with akDue := s.ltx.akDue || decide (s.lrx.ackCount.toNat ≤ s.lrx.deliver.coalescing) } }

/-- An AK becomes due (R124). -/
def State.ackDue (s : State) : State := { s with ltx := { s.ltx with akDue := true } }

/-- The sequence check of an accepted CP or EV frame in ACTIVE, with what its owner does with it when it is delivered
(R120 to R123). -/
def State.sequenced (n : BitVec 7) (owner : State → State) (s : State) : State :=
  if n = s.lrx.expected then owner s.delivered
  else if 64 ≤ (n - s.lrx.expected).toNat then s.ackDue
  else s.badFrame

/-- What an accepted frame does: in ACTIVE it ends the line-loss run and is handled by `active`; in another state it is
handled by `training`, which gets the state it finds (R101, R102). -/
def State.accepted (active training : State → State) (s : State) : State :=
  if s.ltc.link = .active then active s.goodFrame else training s

/-! ### Link commands (7.10) -/

/-- LTC sets the command status (R148). -/
def State.commandStatus (code : BitVec 4) (accepted : Bool) (s : State) : State :=
  { s with ltc := { s.ltc with command := some { code := code, accepted := accepted } } }

/-- The effect of a command code in the state it finds, none when the command is refused (Table 7-8). -/
def State.commandEffect (code : BitVec 4) (s : State) : Option State :=
  match code.toNat, s.ltc.link with
  | 1, .off => some s.freshStart
  | 3, .failed => some s.freshStart
  | 2, .active => some (s.retrain .software)
  | 4, .off => none
  | 4, _ => some s.disable
  | _, _ => none

/-- A command code is written to the link command register (R148). Code 0 gives no command. -/
def State.linkCommand (code : BitVec 4) (s : State) : State :=
  if code = 0 then s
  else
    match s.commandEffect code with
    | some t => t.commandStatus code true
    | none => s.commandStatus code false

/-! ### Function reset (9.6) -/

/-- LTX's part (R118). -/
def Ltx.functionReset (x : Ltx) : Ltx :=
  { Ltx.reset with replayInterval := x.replayInterval, shortLimit := x.shortLimit, longLimit := x.longLimit }

/-- LRX's part (R126, R104). -/
def Lrx.functionReset (x : Lrx) : Lrx :=
  { Lrx.reset with ackCount := x.ackCount, ackDelay := x.ackDelay, lineLossThreshold := x.lineLossThreshold }

/-- LTC's part (R154, Table 7-2). -/
def Ltc.functionReset (c : Ltc) : Ltc :=
  { Ltc.reset with
    current := c.current
    staged := c.staged
    lastGood := c.lastGood
    ourSession := c.ourSession
    seekWindow := c.seekWindow
    attemptLimit := c.attemptLimit
    lockBypass := c.lockBypass
    alignCount := c.alignCount }

/-- Function reset, as one event (R179). -/
def State.functionReset (s : State) : State :=
  { s with
    hrt := s.hrt.functionReset
    pwq := Pwq.reset
    isu := s.isu.functionReset
    ltx := s.ltx.functionReset
    lrx := s.lrx.functionReset
    ltc := s.ltc.functionReset
    evu := s.evu.functionReset
    reg := { s.reg with intakeHold := false }
    tx := .idleFill }

end Sys2Proof.Machine
end

