-- ==== Sys2Proof/Machine/Clock.lean ====
section
/-! DEFINITION. What a step does on an empty queue: a symbol of the receive pair is taken (5.1), or a host clock passes
(R178). -/

namespace Sys2Proof.Machine

/-- A running timer counts one tick. -/
def tickTimer (t : Option Nat) : Option Nat := t.map (· - 1)

/-- Every running timer of the part counts one tick, at the end of that tick (R178). DESIGN CHOICE (log entry 23): the tick
under way when a timer starts is the first that it counts, whole as it is counted and with the period it began with, so a
timer of n ticks runs for more than n - 1 and at most n periods. -/
def State.countTick (s : State) : State :=
  { s with
    hrt := s.hrt.tick
    ltx := { s.ltx with replayTimer := tickTimer s.ltx.replayTimer }
    lrx := { s.lrx with ackDelayTimer := tickTimer s.lrx.ackDelayTimer }
    ltc := { s.ltc with seekTimer := tickTimer s.ltc.seekTimer, alignTimer := tickTimer s.ltc.alignTimer } }

/-- The expiry of an entry's timer that has run out. -/
def entryExpiry (e : Fin 16) : Option Held → Option Instr
  | none => none
  | some h =>
    match h.phase with
    | .queued _ => none
    | .issued _ n => if n = 0 then some (.completionTimerExpiry e) else none
    | .ready _ n => if n = 0 then some (.discardTimerExpiry e) else none
    | .failed _ n => if n = 0 then some (.discardTimerExpiry e) else none

/-- The expiries of the timers that have run out. -/
def State.expiries (s : State) : List Instr :=
  ((List.finRange 16).filterMap fun e => entryExpiry e s.hrt.entries[e]) ++
  (if s.ltx.replayTimer = some 0 then [.replayTimerExpiry] else []) ++
  (if s.lrx.ackDelayTimer = some 0 then [.ackDelayTimerExpiry] else []) ++
  (if s.ltc.seekTimer = some 0 then [.seekWindowExpiry] else []) ++
  (if s.ltc.alignTimer = some 0 then [.alignCountExpiry] else [])

/-- Puts events that come together into an order that nothing constrains: while two or more are left, the free value
says which is taken next (log entry 4). `fuel` is at least the number of events; the counter moves on at every draw. -/
def takeInFreeOrder : Nat → Nat → List Instr → List Instr × Nat
  | 0, k, events => (events, k)
  | _, k, [] => ([], k)
  | _, k, [x] => ([x], k)
  | fuel + 1, k, x :: y :: rest =>
    let events := x :: y :: rest
    let i := Config.takenFirst k % events.length
    let (later, k') := takeInFreeOrder fuel (k + 1) (events.eraseIdx i)
    (events.getD i x :: later, k')

/-- A tick of the timebase: every running timer counts, and the expiries of the timers that run out at this tick wait as
commands (R178, log entry 2). -/
def State.tick (s : State) : State :=
  let t := s.countTick
  let order := takeInFreeOrder t.expiries.length t.freeDraws t.expiries
  { t with pending := t.pending ++ order.1, freeDraws := order.2 }

/-- A host clock passes: the tick under way ends after the clocks it began with, and the next one has TBDIV clocks
(R178). The timebase is held while RESET_N is low (R180). -/
def State.hostClock (s : State) : State :=
  if !s.resetN then s
  else if s.reg.clocksLeft ≤ 1 then { s with reg := { s.reg with clocksLeft := s.reg.tbdiv.toNat } }.tick
  else { s with reg := { s.reg with clocksLeft := s.reg.clocksLeft - 1 } }

/-- The receiver takes one symbol; a frame that ends with it waits as a command (R89, R104). While RESET_N is low the
receiver waits for a start marker (R180). -/
def State.takeSymbol (x : LineSymbol) (s : State) : State :=
  if !s.resetN then s
  else
    let r := receiveSymbol s.lrx.framing x
    { s with lrx := { s.lrx with framing := r.1 }, pending := s.pending ++ r.2.toList }

/-- A step on an empty queue (log entry 2): a start marker or a byte on the receive pair is taken; idle fill, or an empty
line, is one host clock. -/
def State.idle (s : State) : State :=
  match s.rxLine with
  | [] => s.hostClock
  | .idleFill :: rest => { s with rxLine := rest }.hostClock
  | .start :: rest => { s with rxLine := rest }.takeSymbol .start
  | .byte b :: rest => { s with rxLine := rest }.takeSymbol (.byte b)

end Sys2Proof.Machine
end

