-- ==== Sys2Proof/Machine/Intake.lean ====
section
/-! DEFINITION. The intake of an aperture transfer (1.2): the eight steps of Table 1-9, and the posted write queue's
answer (R46). -/

namespace Sys2Proof.Machine

/-- A transfer is answered FAULT and reported (R17). -/
def State.refuse (r : FaultRecord) (s : State) : State := (s.report r).answered .fault

/-- The link is OFF or FAILED (R13, R46). -/
def State.linkDown (s : State) : Bool := s.ltc.link == .off || s.ltc.link == .failed

/-- The data of a write that returns differ from the write data of the entry (R10). -/
def mismatch (x : Transfer) (h : Held) : Bool :=
  match h.kind with
  | .read => false
  | .hwrite data => data != x.data

/-- The data that a DONE for a READY entry carries: the read data, nothing for an HWRITE (R8). -/
def Held.answerData (readData : Option (List Byte)) : List Byte := readData.getD []

/-- Step 2: a return to entry `e` (R7 to R10). -/
def State.returnTo (x : Transfer) (e : Fin 16) (h : Held) (s : State) : State :=
  if mismatch x h then
    s.refuse
      { kind := .returnMismatch
        requester := some x.requester
        offset := some x.offset
        window := some h.window
        entry := some e }
  else
    match h.phase with
    | .queued _ => s.answered .comeback
    | .issued _ _ => s.answered .comeback
    | .ready d _ => { s with hrt := s.hrt.collect e h.requester }.answered (.done (Held.answerData d))
    | .failed _ _ => { s with hrt := s.hrt.collect e h.requester }.answered .fault

/-- The record of an accepted posted write, with the translation of its decode (R45, R42). -/
def Transfer.postedWrite (x : Transfer) (hit : Hit) : PostedWrite :=
  { remote := hit.remote, segment := hit.segment, size := x.size, data := x.data }

/-- A write handed to the posted write queue (R46). -/
def State.acceptPosted (x : Transfer) (hit : Hit) (s : State) : State :=
  if s.linkDown then
    s.refuse
      { kind := .linkDownRequest
        requester := some x.requester
        offset := some x.offset
        window := some hit.window }
  else if 16 ≤ s.pwq.queue.length then s.answered .comeback
  else
    { s with pwq := { s.pwq with queue := s.pwq.queue ++ [x.postedWrite hit] } }.answered (.done [])

/-- Steps 7 and 8: a turn-away, or the creation of an entry (R15, R16). -/
def State.createEntry (x : Transfer) (hit : Hit) (s : State) : State :=
  if s.hrt.requesters[x.requester].atLimit then s.answered .comeback
  else
    match s.hrt.lowestFree with
    | none => s.answered .comeback
    | some e => { s with hrt := s.hrt.create e x hit s.pwq.queue.length }.answered .comeback

/-- Steps 5 to 8 of a held request (R13 to R16). -/
def State.holdRequest (x : Transfer) (hit : Hit) (s : State) : State :=
  if s.linkDown then
    s.refuse
      { kind := .linkDownRequest
        requester := some x.requester
        offset := some x.offset
        window := some hit.window }
  else if s.hrt.requesters[x.requester].lapsed then
    s.refuse
      { kind := .lapsedRequest
        requester := some x.requester
        offset := some x.offset
        window := some hit.window
        detail := some (detailOf s.hrt.requesters[x.requester].discardRun) }
  else s.createEntry x hit

/-- Step 4: the decode, and what its mode and the direction decide (R12, R38). -/
def State.decodeStep (x : Transfer) (s : State) : State :=
  match decodeOffset s.win x.offset with
  | none => s.refuse { kind := .windowMiss, requester := some x.requester, offset := some x.offset }
  | some hit =>
    match x.direction, hit.mode with
    | .write, .readonly =>
      s.refuse
        { kind := .readOnlyWrite
          requester := some x.requester
          offset := some x.offset
          window := some hit.window }
    | .write, .posted => s.acceptPosted x hit
    | _, _ => s.holdRequest x hit

/-- The intake of an aperture transfer, steps 1 to 8 (R4). -/
def State.intake (x : Transfer) (s : State) : State :=
  if !sizeRule x.offset x.size then
    s.refuse
      { kind := .badSize
        requester := some x.requester
        offset := some x.offset
        detail := some (detailOf x.size) }
  else
    match s.hrt.entryWithKey x.key with
    | some (e, h) => s.returnTo x e h
    | none => if s.reg.intakeHold then s.answered .comeback else s.decodeStep x

/-- APERTURE_TRANSFER (R4). -/
def execApertureTransfer (requester : Fin 8) (direction : Direction) (offset : BitVec 28) (size : Nat)
    (data : List Byte) (s : State) : Host.Outcome State Fault Refusal :=
  s.hostTransfer
    (State.intake { requester := requester, direction := direction, offset := offset, size := size, data := data })

end Sys2Proof.Machine
end

