-- ==== Sys2Proof/Machine/ReceivedFrames.lean ====
section
/-! DEFINITION. The meanings of the received frame rows (Chapters 4 to 8). -/

namespace Sys2Proof.Machine

/-! ### CP and EV -/

/-- The fault kind with which HRT reports a failure cause (R20, R21). LINK_LOST has none (R29). -/
def reportKind : FailCause → FaultKind
  | .remoteFault => .remoteFault
  | .unsupported => .unsupported
  | .badCompletion => .badCompletion
  | .noCompletion => .noCompletion
  | .linkLost => .noCompletion

/-- HRT's report of a completion's outcome, when the entry fails (R20). -/
def State.reportOutcome (e : Fin 16) (h : Held) (tag : Fin 32) (status : CpStatus) (data : List Byte) (s : State) :
    State :=
  match h.completionCause status data with
  | none => s
  | some .badCompletion => s.report (heldReport .badCompletion e h tag (some (detailOf data.length)))
  | some c => s.report (heldReport (reportKind c) e h tag none)

/-- A CP for a HELD tag: it is delivered to the entry that holds the tag, and the tag becomes FREE (R68, R20). -/
def State.deliverCompletion (tag : Fin 32) (status : CpStatus) (data : List Byte) (s : State) : State :=
  let t := { s with isu := s.isu.setTag tag .free }
  match s.hrt.entryWithTag tag with
  | none => t
  | some (e, h) =>
    { t with hrt := t.hrt.setHeld e fun h => h.completed status data t.hrt.discardTicks }.reportOutcome e h tag status data

/-- A CP for a QUARANTINED tag: a late completion (R69). -/
def State.lateCompletion (tag : Fin 32) (s : State) : State := { s with isu := s.isu.setTag tag .free }.raise .late

/-- A CP for a FREE tag (R70). -/
def State.badTag (tag : Fin 32) (s : State) : State :=
  s.report { kind := .badTag, tag := some tag, detail := some (detailOf s.isu.allowance) }

/-- ISU takes a CP frame (Table 4-2). -/
def State.takeCompletion (tag : Fin 32) (status : CpStatus) (data : List Byte) (s : State) : State :=
  if s.isu.allowance ≤ tag.val then s.badTag tag
  else
    match s.isu.tags[tag] with
    | .held => s.deliverCompletion tag status data
    | .quarantined => s.lateCompletion tag
    | .free => s.badTag tag

/-- CP_RECEIVED (R120, R67). DESIGN CHOICE (log entry 25): ISU takes the CP in this same step, so an AK received after it
always reaches LTX after ISU has taken the CP; R101 allows either order. -/
def execCpReceived (number : BitVec 7) (tag : Fin 32) (status : CpStatus) (data : List Byte) (s : State) :
    Host.Outcome State Fault Refusal :=
  s.powered (State.accepted (State.sequenced number (State.takeCompletion tag status data)) id)

/-- The remote address of a WRITE_FAULT body: bytes 1 to 5, bits 39 to 32 first (R158). -/
def eventAddress (body : Vector Byte 7) : BitVec 40 := body[1] ++ body[2] ++ body[3] ++ body[4] ++ body[5]

/-- The source number of a SIGNAL body: bits 3 to 0 of byte 0 (R156). -/
def eventSource (body : Vector Byte 7) : Fin 16 := (body[0].extractLsb' 0 4).toFin

/-- EVU takes an EV frame (R156, R158, R159). -/
def State.takeEvent (kind : BitVec 4) (body : Vector Byte 7) (s : State) : State :=
  match kind.toNat with
  | 0 => { s with evu := s.evu.signal (eventSource body) }
  | 1 =>
    s.report
      { kind := .writeFault
        remote := some (eventAddress body, body[0].extractLsb' 0 2)
        detail := some (detailOf body[6].toNat) }
  | _ => s.report { kind := .unknownEvent, detail := some (detailOf kind.toNat) }

/-- EV_RECEIVED (R120, R156 to R159). DESIGN CHOICE (log entry 25): EVU takes the EV in this same step, before the owner of
any later frame takes that one; R101 hands frames of different owners over independently. -/
def execEvReceived (number : BitVec 7) (kind : BitVec 4) (body : Vector Byte 7) (s : State) :
    Host.Outcome State Fault Refusal :=
  s.powered (State.accepted (State.sequenced number (State.takeEvent kind body)) id)

/-! ### AK, NK and CR -/

/-- AK_RECEIVED (R109). DESIGN CHOICE (log entry 25): LTX takes the AK after the owners of all earlier frames have taken
theirs, also after ISU has taken an earlier CP, where R101 allows either order. -/
def execAkReceived (number : BitVec 7) (s : State) : Host.Outcome State Fault Refusal :=
  s.powered (State.accepted (State.acknowledge number) id)

/-- LTX takes a NK: first as an AK, then a replay is due when no pass runs and frames remain (R110). -/
def State.takeNk (number : BitVec 7) (s : State) : State :=
  let t := s.acknowledge number
  if s.ltx.ackClass number = .outOfRange then t
  else if t.ltx.pass.isNone && !t.ltx.buffer.isEmpty then t.replayDue
  else t

/-- NK_RECEIVED (R110). -/
def execNkReceived (number : BitVec 7) (s : State) : Host.Outcome State Fault Refusal :=
  s.powered (State.accepted (State.takeNk number) id)

/-- ISU takes a CR frame (R77). -/
def State.takeCredits (total : BitVec 8) (s : State) : State :=
  if s.isu.advance total ≤ s.isu.creditsInUse then { s with isu := { s.isu with returned := total } }
  else s.report { kind := .creditOverrun, detail := some (detailOf total.toNat) }

/-- CR_RECEIVED (R77). -/
def execCrReceived (total : BitVec 8) (s : State) : Host.Outcome State Fault Refusal :=
  s.powered (State.accepted (State.takeCredits total) id)

/-! ### SK, AL and PM -/

/-- An SK of our grade counts in the SK run; the third moves the state to ALIGN (R135). -/
def State.countSk (s : State) : State :=
  let t := { s with ltc := { s.ltc with skRun := s.ltc.skRun + 1 } }
  if 3 ≤ s.ltc.skRun + 1 then t.enterAlign else t

/-- An SK taken outside ACTIVE: counted or breaking the run in SEEK, ignored elsewhere (R135, R138, R140). -/
def State.trainSk (grade : Grade) (s : State) : State :=
  match s.ltc.link with
  | .seek => if grade = s.ltc.current then s.countSk else { s with ltc := { s.ltc with skRun := 0 } }
  | _ => s

/-- An SK taken in ACTIVE: a PARTNER retrain, and an SK of the grade that the new SEEK runs at is its first SK
(R144, log entry 8). -/
def State.activeSk (grade : Grade) (s : State) : State :=
  let t := s.retrain .partner
  if grade = t.ltc.current then { t with ltc := { t.ltc with skRun := 1 } } else t

/-- SK_RECEIVED (R135, R144). -/
def execSkReceived (grade : Grade) (s : State) : Host.Outcome State Fault Refusal :=
  s.powered (State.accepted (State.activeSk grade) (State.trainSk grade))

/-- An AL taken in ALIGN: one above the AL run gives lock; the AL run takes the index (R138, log entry 9). -/
def State.alignAl (index : BitVec 8) (s : State) : State :=
  let t := { s with ltc := { s.ltc with alRun := some index } }
  match s.ltc.alRun with
  | none => t
  | some last => if index = last + 1 then t.enterExchange else t

/-- An AL taken outside ACTIVE (R135, R138, R140). -/
def State.trainAl (index : BitVec 8) (s : State) : State :=
  match s.ltc.link with
  | .seek => if 1 ≤ s.ltc.skRun then s.enterAlign else s
  | .align => s.alignAl index
  | _ => s

/-- AL_RECEIVED (R138, R144). -/
def execAlReceived (index : BitVec 8) (s : State) : Host.Outcome State Fault Refusal :=
  s.powered (State.accepted (State.retrain .partner) (State.trainAl index))

/-- The number of the first check of Table 7-7 that a PM fails (R140). -/
def Ltc.failedCheck (session : BitVec 4) (grade : Grade) (q w : BitVec 8) (c : Ltc) : Option Nat :=
  if grade ≠ c.current then some 1
  else if session = 0 then some 2
  else if q.toNat = 0 ∨ 32 < q.toNat then some 3
  else if w.toNat = 0 ∨ 64 < w.toNat then some 4
  else none

/-- A PM agrees with the standing session (R142). -/
def Ltc.matchesSession (session : BitVec 4) (q w : BitVec 8) (c : Ltc) : Bool :=
  session == c.partnerSession && q.toNat == c.requestOffer && w.toNat == c.writeOffer

/-- A valid PM: it starts a session, resumes the one that stands, or ends it by mismatch (R141, R142). -/
def State.validPm (session : BitVec 4) (q w : BitVec 8) (s : State) : State :=
  if s.ltc.partnerSession = 0 then s.startSession session q.toNat w.toNat
  else if s.ltc.matchesSession session q w then s.resumeSession
  else s.teardown.freshStart

/-- A PM taken outside ACTIVE (R135, R138, R140). -/
def State.trainPm (session : BitVec 4) (grade : Grade) (q w : BitVec 8) (s : State) : State :=
  match s.ltc.link with
  | .align => if s.ltc.alRun.isSome then s.enterExchange else s
  | .exchange =>
    match s.ltc.failedCheck session grade q w with
    | some n => s.report { kind := .paramInvalid, detail := some (detailOf n) }
    | none => s.validPm session q w
  | _ => s

/-- A PM taken in ACTIVE: one that repeats the session changes nothing, any other makes a PARTNER retrain (R144). -/
def State.activePm (session : BitVec 4) (grade : Grade) (q w : BitVec 8) (s : State) : State :=
  if s.ltc.matchesSession session q w ∧ grade = s.ltc.current then s else s.retrain .partner

/-- PM_RECEIVED (R140, R144). -/
def execPmReceived (session : BitVec 4) (grade : Grade) (requestOffer writeOffer : BitVec 8) (s : State) :
    Host.Outcome State Fault Refusal :=
  s.powered
    (State.accepted (State.activePm session grade requestOffer writeOffer)
      (State.trainPm session grade requestOffer writeOffer))

/-! ### Bad frames -/

/-- A corrupt frame in ACTIVE: it raises the line-loss run, and a run that reaches the threshold asks for a retrain
(R125). -/
def State.corruptFrame (s : State) : State :=
  let run := s.lrx.lineLossRun + 1
  let t := { s with lrx := { s.lrx with lineLossRun := run } }.badFrame
  if s.lrx.lineLossThreshold.toNat ≤ run then t.goodFrame.retrain .lineLoss else t

/-- CORRUPT_FRAME_RECEIVED (R125, R123); outside ACTIVE it is dropped (R102). -/
def execCorruptFrameReceived (s : State) : Host.Outcome State Fault Refusal :=
  s.powered fun s => if s.ltc.link = .active then s.corruptFrame else s

/-- REJECTED_FRAME_RECEIVED: a bad frame that ends the line-loss run (R100, R123); outside ACTIVE it is dropped (R102). -/
def execRejectedFrameReceived (s : State) : Host.Outcome State Fault Refusal :=
  s.powered fun s => if s.ltc.link = .active then s.goodFrame.badFrame else s

end Sys2Proof.Machine
end

