-- ==== Sys2Proof/Machine/Registers.lean ====
section
/-! DEFINITION. The register window (Chapter 9): the map of Table 9-2, what each register reads, and what a taken write
of it does (Table 9-3). -/

namespace Sys2Proof.Machine

/-- The registers of the register window (Table 9-2). -/
inductive Register where
  | identity
  | generalControl
  | tbdiv
  | functionResetCommand
  | quietStatus
  | linkCommand
  | linkStatus
  | grades
  | trainingControls
  | retryControls
  | transmitStatus
  | replayCounter
  | ackControls
  | receiveStatus
  | sessions
  | recordedOffers
  | windowControl (w : Fin 8)
  | windowBase (w : Fin 8)
  | remoteBaseLow (w : Fin 8)
  | remoteBaseHigh (w : Fin 8)
  | requesterRecord (r : Fin 8)
  | discardInterval
  | lapseThreshold
  | completionTimeout
  | discardCount
  | entryView (e : Fin 16)
  | allowanceAndOffer
  | freeTagsAndCredits
  | quarantineSet
  | occupancyAndLost
  | remotePending
  | remoteEnable
  | remoteRoute
  | localPending
  | localEnable
  | localRoute
  | identification
  | repeatCounts0to7
  | repeatCounts8to15
  | faultKind
  | faultPresence
  | faultOrigin
  | faultOffset
  | faultRemoteLow
  | faultRemoteHigh
  | faultDetail
  | faultClear
deriving DecidableEq, Repr

/-- The offset of a register (Table 9-2). -/
def Register.offset : Register → Nat
  | .identity => 0x000
  | .generalControl => 0x004
  | .tbdiv => 0x008
  | .functionResetCommand => 0x00C
  | .quietStatus => 0x010
  | .linkCommand => 0x040
  | .linkStatus => 0x044
  | .grades => 0x048
  | .trainingControls => 0x04C
  | .retryControls => 0x054
  | .transmitStatus => 0x058
  | .replayCounter => 0x05C
  | .ackControls => 0x060
  | .receiveStatus => 0x064
  | .sessions => 0x068
  | .recordedOffers => 0x06C
  | .windowControl w => 0x080 + 16 * w
  | .windowBase w => 0x084 + 16 * w
  | .remoteBaseLow w => 0x088 + 16 * w
  | .remoteBaseHigh w => 0x08C + 16 * w
  | .requesterRecord r => 0x100 + 4 * r
  | .discardInterval => 0x120
  | .lapseThreshold => 0x124
  | .completionTimeout => 0x128
  | .discardCount => 0x12C
  | .entryView e => 0x140 + 4 * e
  | .allowanceAndOffer => 0x180
  | .freeTagsAndCredits => 0x184
  | .quarantineSet => 0x188
  | .occupancyAndLost => 0x18C
  | .remotePending => 0x200
  | .remoteEnable => 0x204
  | .remoteRoute => 0x208
  | .localPending => 0x20C
  | .localEnable => 0x210
  | .localRoute => 0x214
  | .identification => 0x218
  | .repeatCounts0to7 => 0x220
  | .repeatCounts8to15 => 0x224
  | .faultKind => 0x280
  | .faultPresence => 0x284
  | .faultOrigin => 0x288
  | .faultOffset => 0x28C
  | .faultRemoteLow => 0x290
  | .faultRemoteHigh => 0x294
  | .faultDetail => 0x298
  | .faultClear => 0x2A4

/-- The registers that stand alone, in the order of Table 9-2. -/
def singleRegisters : List Register :=
  [.identity, .generalControl, .tbdiv, .functionResetCommand, .quietStatus, .linkCommand, .linkStatus, .grades,
    .trainingControls, .retryControls, .transmitStatus, .replayCounter, .ackControls, .receiveStatus, .sessions,
    .recordedOffers, .discardInterval, .lapseThreshold, .completionTimeout, .discardCount, .allowanceAndOffer,
    .freeTagsAndCredits, .quarantineSet, .occupancyAndLost, .remotePending, .remoteEnable, .remoteRoute,
    .localPending, .localEnable, .localRoute, .identification, .repeatCounts0to7, .repeatCounts8to15, .faultKind,
    .faultPresence, .faultOrigin, .faultOffset, .faultRemoteLow, .faultRemoteHigh, .faultDetail, .faultClear]

/-- Every register of the window. -/
def allRegisters : List Register :=
  singleRegisters ++ (List.finRange 8).flatMap (fun w =>
    [.windowControl w, .windowBase w, .remoteBaseLow w, .remoteBaseHigh w, .requesterRecord w]) ++
  (List.finRange 16).map .entryView

/-- The register at an offset, none where no register is assigned (R175). -/
def registerAt (offset : Nat) : Option Register := allRegisters.find? fun r => r.offset == offset

/-- An access is taken when its size is 4 bytes and its offset is a multiple of 4 (R172). -/
def accessTaken (offset : BitVec 12) (size : Nat) : Bool := size == 4 && offset.toNat % 4 == 0

/-! ### Reads (R173) -/

/-- A count in a field of `w` bits at `lo`. -/
def placeNat (lo w n : Nat) : Word := place lo (BitVec.ofNat w n)

/-- The four indications of quiet status (R181). -/
def State.quietStatus (s : State) : BitVec 4 :=
  let queueEmpty := s.pwq.queue.isEmpty
  let bufferEmpty := s.ltx.buffer.isEmpty
  let noneOpen := s.hrt.noneInFlight
  flagBit noneOpen ++ flagBit bufferEmpty ++ flagBit queueEmpty ++ flagBit (queueEmpty && bufferEmpty && noneOpen)

/-- The view of an entry: only the fields present in its state (Table 9-3, R1). -/
def entryView : Option Held → Word
  | none => 0
  | some h =>
    place 0 (phaseCode h.phase) |||
    (match h.kind with
      | .read => 0
      | .hwrite _ => place 3 1#1) |||
    placeNat 4 3 h.requester ||| placeNat 8 3 h.order ||| placeNat 12 3 h.window |||
    (match h.phase with
      | .issued t _ => placeNat 16 5 t
      | .failed c _ => place 24 (failCauseCode c)
      | _ => 0)

/-- The flags of a vector of tags, tag t at bit t. -/
def quarantineFlags (tags : Vector TagState 32) : Word :=
  (List.finRange 32).foldl (fun acc t => if tags[t] == .quarantined then acc ||| 1#32 <<< t.val else acc) 0

/-- Eight repeat counts, four bits each, from source `first` on. -/
def repeatFlags (counts : Vector Nat 16) (first : Nat) : Word :=
  (List.range 8).foldl (fun acc i => acc ||| placeNat (4 * i) 4 (counts.toList.getD (first + i) 0)) 0

/-- A field of the fault record, 0 when it is absent (R169). -/
def faultField {α : Type} (e : Evu) (get : FaultRecord → Option α) (show_ : α → Word) : Word :=
  ((e.fault.bind get).map show_).getD 0

/-- The presence flags of the fault record (Table 9-3). -/
def presenceFlags : Option FaultRecord → Word
  | none => 0
  | some r =>
    place 0 (flagBit r.requester.isSome) ||| place 1 (flagBit r.offset.isSome) ||| place 2 (flagBit r.window.isSome) |||
    place 3 (flagBit r.entry.isSome) ||| place 4 (flagBit r.tag.isSome) ||| place 5 (flagBit r.remote.isSome) |||
    place 6 (flagBit r.detail.isSome)

/-- The value of a register (Table 9-3). Bits that a register does not assign read 0, and WO fields read as 0. -/
def State.readRegister (s : State) : Register → Word
  | .identity => Config.identity
  | .generalControl => place 0 (policyBit s.reg.policy) ||| place 1 (flagBit s.reg.intakeHold)
  | .tbdiv => place 0 s.reg.tbdiv
  | .functionResetCommand => 0
  | .quietStatus => place 0 s.quietStatus
  | .linkCommand => 0
  | .linkStatus =>
    place 0 (linkCode s.ltc.link) ||| place 4 (flagBit s.ltc.trial) ||| place 8 (linkFailureCode s.ltc.failure) |||
    place 12 (reasonCode s.ltc.lastReason) ||| placeNat 24 4 s.ltc.attempts |||
    (match s.ltc.command with
      | none => 0
      | some c => place 16 c.code ||| place 20 (flagBit c.accepted))
  | .grades =>
    place 0 (gradeNumber s.ltc.staged) ||| place 4 (gradeNumber s.ltc.current) |||
    place 8 (gradeNumber s.ltc.lastGood)
  | .trainingControls =>
    place 0 s.ltc.seekWindow ||| place 8 s.ltc.attemptLimit ||| place 12 (flagBit s.ltc.lockBypass) |||
    place 16 s.ltc.alignCount
  | .retryControls => place 0 s.ltx.replayInterval ||| place 8 s.ltx.shortLimit ||| place 12 s.ltx.longLimit
  | .transmitStatus =>
    place 0 s.ltx.next ||| placeNat 8 6 s.ltx.buffer.length ||| place 15 (flagBit s.ltx.pass.isSome) |||
    placeNat 16 3 s.ltx.shortRetry ||| placeNat 20 3 s.ltx.longRetry
  | .replayCounter => place 0 s.ltx.replayCounter ||| place 16 (flagBit s.ltx.wrapFlag)
  | .ackControls => place 0 s.lrx.ackCount ||| place 8 s.lrx.ackDelay ||| place 16 s.lrx.lineLossThreshold
  | .receiveStatus => place 0 s.lrx.expected ||| placeNat 8 4 s.lrx.lineLossRun
  | .sessions => place 0 s.ltc.ourSession ||| place 8 s.ltc.partnerSession
  | .recordedOffers => placeNat 0 6 s.ltc.requestOffer ||| placeNat 16 7 s.ltc.writeOffer
  | .windowControl w =>
    place 0 (modeCode s.win[w].mode) ||| place 4 s.win[w].segment ||| placeNat 8 5 s.win[w].sizeCode
  | .windowBase w => place 0 s.win[w].base
  | .remoteBaseLow w => s.win[w].remoteBase.extractLsb' 0 32
  | .remoteBaseHigh w => place 0 (s.win[w].remoteBase.extractLsb' 32 8)
  | .requesterRecord r =>
    let q := s.hrt.requesters[r]
    place 0 (levelBit q.level) ||| place 4 q.heldLimit ||| placeNat 12 3 q.heldCount ||| placeNat 16 4 q.discardRun |||
    place 20 (flagBit q.lapsed)
  | .discardInterval => place 0 s.hrt.discardInterval
  | .lapseThreshold => place 0 s.hrt.lapseThreshold
  | .completionTimeout => place 0 s.isu.completionTimeout
  | .discardCount => placeNat 0 16 s.hrt.discardCount
  | .entryView e => entryView s.hrt.entries[e]
  | .allowanceAndOffer => placeNat 0 6 s.isu.allowance ||| placeNat 16 7 s.isu.writeOffer
  | .freeTagsAndCredits => placeNat 0 6 s.isu.freeTags ||| placeNat 16 7 s.isu.creditsAvailable
  | .quarantineSet => quarantineFlags s.isu.tags
  | .occupancyAndLost => placeNat 0 5 s.pwq.queue.length ||| placeNat 16 16 s.pwq.lostWrites
  | .remotePending => place 0 s.evu.remotePending
  | .remoteEnable => place 0 s.evu.remoteEnable
  | .remoteRoute => place 0 s.evu.remoteRoute
  | .localPending => place 0 s.evu.localPending
  | .localEnable => place 0 s.evu.localEnable
  | .localRoute => place 0 s.evu.localRoute
  | .identification => place 0 s.evu.identification
  | .repeatCounts0to7 => repeatFlags s.evu.remoteRepeat 0
  | .repeatCounts8to15 => repeatFlags s.evu.remoteRepeat 8
  | .faultKind =>
    (match s.evu.fault with
      | none => 0
      | some r => place 0 (faultCode r.kind)) ||| placeNat 8 8 s.evu.laterCount
  | .faultPresence => presenceFlags s.evu.fault
  | .faultOrigin =>
    faultField s.evu FaultRecord.requester (fun x => placeNat 0 3 x) |||
    faultField s.evu FaultRecord.window (fun x => placeNat 4 3 x) |||
    faultField s.evu FaultRecord.entry (fun x => placeNat 8 4 x) |||
    faultField s.evu FaultRecord.tag (fun x => placeNat 16 5 x)
  | .faultOffset => faultField s.evu FaultRecord.offset (place 0)
  | .faultRemoteLow => faultField s.evu FaultRecord.remote (fun x => x.1.extractLsb' 0 32)
  | .faultRemoteHigh =>
    faultField s.evu FaultRecord.remote (fun x => place 0 (x.1.extractLsb' 32 8) ||| place 8 x.2)
  | .faultDetail => faultField s.evu FaultRecord.detail (place 0)
  | .faultClear => 0

/-- A register-select read: the value of a read that is taken, none for one that is answered FAULT (R172, R173, R180).
It changes no state, so it is no command (log entry 12). -/
def State.registerRead (s : State) (offset : BitVec 12) (size : Nat) : Option Word :=
  if s.resetN && accessTaken offset size then some (((registerAt offset.toNat).map s.readRegister).getD 0) else none

/-! ### Writes (R174) -/

/-- Changes the record of one window (R33). -/
def State.setWindow (w : Fin 8) (f : Window → Window) (s : State) : State := { s with win := s.win.set w (f s.win[w]) }

/-- A write of a requester record (R25). -/
def State.writeRequester (r : Fin 8) (level : Level) (limit : BitVec 3) (clearLapse : Bool) (s : State) : State :=
  { s with hrt := s.hrt.setRequester r (Requester.write level limit clearLapse) }

/-- A W1C write of the wrap flag (R115). -/
def State.clearWrapFlag (s : State) : State := { s with ltx := { s.ltx with wrapFlag := false } }

/-- A taken write of a register: its RW fields take the written value, its W1C and WO fields act by their owner's rule,
and its RO fields are not changed (R174). -/
def State.writeRegister (r : Register) (v : Word) (s : State) : State :=
  match r with
  | .generalControl =>
    { s with reg := { s.reg with policy := policyOf (field 0 1 v), intakeHold := v.getLsbD 1 } }
  | .tbdiv => { s with reg := { s.reg with tbdiv := atLeastOne (field 0 8 v) } }
  | .functionResetCommand => if v.getLsbD 0 then s.functionReset else s
  | .linkCommand => s.linkCommand (field 0 4 v)
  | .grades => { s with ltc := { s.ltc with staged := gradeOfWritten (field 0 3 v) } }
  | .trainingControls =>
    { s with
      ltc := { s.ltc with
        seekWindow := atLeastOne (field 0 8 v)
        attemptLimit := field 8 4 v
        lockBypass := v.getLsbD 12
        alignCount := atLeastOne (field 16 8 v) } }
  | .retryControls =>
    { s with
      ltx := { s.ltx with
        replayInterval := atLeastOne (field 0 8 v)
        shortLimit := oneToFour (field 8 3 v)
        longLimit := field 12 3 v } }
  | .replayCounter => if v.getLsbD 16 then s.clearWrapFlag else s
  | .ackControls =>
    { s with
      lrx := { s.lrx with
        ackCount := oneToSixteen (field 0 5 v)
        ackDelay := atLeastOne (field 8 6 v)
        lineLossThreshold := atLeastOne (field 16 4 v) } }
  | .windowControl w => s.setWindow w (Window.writeControl v)
  | .windowBase w => s.setWindow w (Window.writeBase v)
  | .remoteBaseLow w => s.setWindow w (Window.writeRemoteLow v)
  | .remoteBaseHigh w => s.setWindow w (Window.writeRemoteHigh v)
  | .requesterRecord q => s.writeRequester q (levelOf (field 0 1 v)) (field 4 3 v) (v.getLsbD 8)
  | .discardInterval => { s with hrt := { s.hrt with discardInterval := atLeastOne (field 0 8 v) } }
  | .lapseThreshold => { s with hrt := { s.hrt with lapseThreshold := field 0 4 v } }
  | .completionTimeout => { s with isu := { s.isu with completionTimeout := atLeastOne (field 0 8 v) } }
  | .remotePending => { s with evu := s.evu.clearRemote (field 0 16 v) }
  | .remoteEnable => { s with evu := s.evu.setRemoteEnable (field 0 16 v) }
  | .remoteRoute => { s with evu := s.evu.setRemoteRoute (field 0 16 v) }
  | .localPending => { s with evu := s.evu.clearLocal (field 0 8 v) }
  | .localEnable => { s with evu := s.evu.setLocalEnable (field 0 8 v) }
  | .localRoute => { s with evu := s.evu.setLocalRoute (field 0 8 v) }
  | .faultClear => if v.getLsbD 0 then { s with evu := s.evu.emptyFault } else s
  | .identity | .quietStatus | .linkStatus | .transmitStatus | .receiveStatus | .sessions | .recordedOffers
  | .discardCount | .entryView _ | .allowanceAndOffer | .freeTagsAndCredits | .quarantineSet | .occupancyAndLost
  | .identification | .repeatCounts0to7 | .repeatCounts8to15 | .faultKind | .faultPresence | .faultOrigin
  | .faultOffset | .faultRemoteLow | .faultRemoteHigh | .faultDetail => s

/-- A register-select write while RESET_N is high: one that is not 4 bytes and aligned is answered FAULT and changes
nothing; a write to an offset with no register assigned is ignored (R172, R174). -/
def State.registerWrite (offset : BitVec 12) (size : Nat) (v : Word) (s : State) : State :=
  if accessTaken offset size then
    (match registerAt offset.toNat with
      | some r => s.writeRegister r v
      | none => s).answered (.done [])
  else s.answered .fault

end Sys2Proof.Machine
end

