-- ==== Sys2Proof/Machine/RegisterWindow.lean ====
section
/-! DEFINITION. The meanings of the register write rows (Chapters 1, 6, 7, 8 and 9). -/

namespace Sys2Proof.Machine

/-- REGISTER_WRITE (R172, R174). The requester number has no effect (R172). -/
def execRegisterWrite (_requester : Fin 8) (offset : BitVec 12) (size : Nat) (value : Word) (s : State) :
    Host.Outcome State Fault Refusal :=
  s.hostTransfer (State.registerWrite offset size value)

/-- FUNCTION_RESET (R179). -/
def execFunctionReset (s : State) : Host.Outcome State Fault Refusal := s.takenWrite State.functionReset

/-- ENABLE, code 1 (R149). -/
def execEnable (s : State) : Host.Outcome State Fault Refusal := s.takenWrite (State.linkCommand 1)

/-- RESTART, code 3 (R149). -/
def execRestart (s : State) : Host.Outcome State Fault Refusal := s.takenWrite (State.linkCommand 3)

/-- RETRAIN, code 2 (R150). -/
def execRetrain (s : State) : Host.Outcome State Fault Refusal := s.takenWrite (State.linkCommand 2)

/-- DISABLE, code 4 (R151). -/
def execDisable (s : State) : Host.Outcome State Fault Refusal := s.takenWrite (State.linkCommand 4)

/-- UNASSIGNED_LINK_COMMAND: a code from 5 to 15 names no command and is refused (R148). -/
def execUnassignedLinkCommand (code : BitVec 4) (s : State) : Host.Outcome State Fault Refusal :=
  s.takenWrite (State.linkCommand code)

/-- CLEAR_LAPSE: a write of a requester record with the clear-lapse indication set (R25). -/
def execClearLapse (requester : Fin 8) (level : Level) (limit : BitVec 3) (s : State) :
    Host.Outcome State Fault Refusal :=
  s.takenWrite (State.writeRequester requester level limit true)

/-- CLEAR_WRAP_FLAG (R115). -/
def execClearWrapFlag (s : State) : Host.Outcome State Fault Refusal := s.takenWrite State.clearWrapFlag

/-- CLEAR_REMOTE_SOURCE (R157). -/
def execClearRemoteSource (marks : BitVec 16) (s : State) : Host.Outcome State Fault Refusal :=
  s.takenWrite fun s => { s with evu := s.evu.clearRemote marks }

/-- CLEAR_LOCAL_CAUSE (R161). -/
def execClearLocalCause (marks : BitVec 8) (s : State) : Host.Outcome State Fault Refusal :=
  s.takenWrite fun s => { s with evu := s.evu.clearLocal marks }

/-- FAULT_RECORD_CLEAR (R167). -/
def execFaultRecordClear (s : State) : Host.Outcome State Fault Refusal :=
  s.takenWrite fun s => { s with evu := s.evu.emptyFault }

end Sys2Proof.Machine
end

