-- ==== Sys2Proof/Machine/ResetPin.lean ====
section
/-! DEFINITION. The meanings of the RESET_N rows (9.7). -/

namespace Sys2Proof.Machine

/-- The part while RESET_N is low: every item at its chip reset value. What stands outside the part is kept: the
waiting commands, the symbols on the receive pair and the model's counter (log entry 17). -/
def State.heldInReset (s : State) : State :=
  { State.reset with resetN := false, rxLine := s.rxLine, freeDraws := s.freeDraws, pending := s.pending }

/-- CHIP_RESET: RESET_N is driven low, or power-up (R180). -/
def execChipReset (s : State) : Host.Outcome State Fault Refusal := .next s.heldInReset

/-- CHIP_RESET_RELEASE: RESET_N goes high, and the part takes transfers from its chip reset state (R180). -/
def execChipResetRelease (s : State) : Host.Outcome State Fault Refusal := .next { s with resetN := true }

end Sys2Proof.Machine
end

