-- ==== Sys2Proof/Machine/TimerExpiries.lean ====
section
/-! DEFINITION. The meanings of the timer expiry rows. An expiry acts while its timer runs (log entry 3). -/

namespace Sys2Proof.Machine

/-- The completion timer of entry `e` expires (R21, R73). -/
def State.completionExpiry (e : Fin 16) (h : Held) (tag : Fin 32) (s : State) : State :=
  ({ s with
      isu := s.isu.setTag tag .quarantined
      hrt := s.hrt.setHeld e (Held.fail .noCompletion s.hrt.discardTicks) }.raise .timeout).report
    (heldReport .noCompletion e h tag none)

/-- COMPLETION_TIMER_EXPIRY (R73): the entry is ISSUED, or its completion timer does not run. -/
def execCompletionTimerExpiry (entry : Fin 16) (s : State) : Host.Outcome State Fault Refusal :=
  s.powered fun s =>
    match s.hrt.entries[entry] with
    | none => s
    | some h =>
      match h.phase with
      | .issued tag _ => s.completionExpiry entry h tag
      | .queued _ => s
      | .ready _ _ => s
      | .failed _ _ => s

/-- The discard lapses the requester: it was not lapsed before and it is after (R23). -/
def lapses (threshold : BitVec 4) (q : Requester) : Bool := !q.lapsed && (q.afterDiscard threshold).lapsed

/-- The discard timer of entry `e` expires (R23). -/
def State.discardExpiry (e : Fin 16) (h : Held) (s : State) : State :=
  let t := { s with hrt := s.hrt.discard e h.requester }
  if lapses s.hrt.lapseThreshold s.hrt.requesters[h.requester] then t.raise .lapse else t

/-- DISCARD_TIMER_EXPIRY (R23): the entry is READY or FAILED, or its discard timer does not run. -/
def execDiscardTimerExpiry (entry : Fin 16) (s : State) : Host.Outcome State Fault Refusal :=
  s.powered fun s =>
    match s.hrt.entries[entry] with
    | none => s
    | some h => if h.inFlight then s else s.discardExpiry entry h

/-- REPLAY_TIMER_EXPIRY (R111): with no pass running a replay is due; while one runs nothing becomes due. -/
def execReplayTimerExpiry (s : State) : Host.Outcome State Fault Refusal :=
  s.powered fun s =>
    if s.ltx.replayTimer.isNone then s
    else
      let t := { s with ltx := { s.ltx with replayTimer := none } }
      if s.ltx.pass.isNone then t.replayDue else t

/-- ACK_DELAY_TIMER_EXPIRY (R124). -/
def execAckDelayTimerExpiry (s : State) : Host.Outcome State Fault Refusal :=
  s.powered fun s =>
    if s.lrx.ackDelayTimer.isNone then s
    else { s with lrx := { s.lrx with ackDelayTimer := none } }.ackDue

/-- An attempt is counted: the link is in SEEK and the window restarts (R136). -/
def Ltc.countAttempt (c : Ltc) : Ltc :=
  { c with
    link := .seek
    attempts := min 15 (c.attempts + 1)
    skRun := 0
    alRun := none
    alignTimer := none
    seekTimer := some c.seekTicks }

/-- A fallback (R131). -/
def Ltc.fallback (c : Ltc) : Ltc :=
  { c with
    current := c.lastGood
    staged := c.lastGood
    trial := false
    attempts := 0
    skRun := 0
    alRun := none
    seekTimer := some c.seekTicks
    link := .seek }

/-- The limit check after an attempt is counted (R137). -/
def State.limitCheck (s : State) : State :=
  if s.ltc.attemptLimit.toNat = 0 ∨ s.ltc.attempts < s.ltc.attemptLimit.toNat then s
  else if s.ltc.trial then { s with ltc := s.ltc.fallback }.raise .fallback
  else s.enterFailed .trainTimeout

/-- SEEK_WINDOW_EXPIRY (R136, R137). -/
def execSeekWindowExpiry (s : State) : Host.Outcome State Fault Refusal :=
  s.powered fun s =>
    if s.ltc.seekTimer.isNone then s else { s with ltc := s.ltc.countAttempt }.limitCheck

/-- ALIGN_COUNT_EXPIRY: lock is assumed (R139). -/
def execAlignCountExpiry (s : State) : Host.Outcome State Fault Refusal :=
  s.powered fun s => if s.ltc.link = .align ∧ s.ltc.alignTimer.isSome then s.enterExchange else s

end Sys2Proof.Machine
end

