-- ==== Sys2Proof/Machine/Transmit.lean ====
section
/-! DEFINITION. The meanings of the rows of the transmit pair: the transmit choice (R99, R107), the new-frame selection
(3.4) and issue (4.1). The pair is free when such a command is taken (log entry 14). -/

namespace Sys2Proof.Machine

/-- What the transmit choice comes to in ACTIVE (Table 6-2). -/
inductive Choice where
  | nk (number : BitVec 7)
  | ak
  | resend (position : BitVec 7)
  | newFrame
  | idleFill
deriving DecidableEq, Repr

/-- The transmit choice in ACTIVE (Table 6-2). -/
def Ltx.choice (x : Ltx) : Choice :=
  match x.nkDue with
  | some n => .nk n
  | none =>
    if x.akDue then .ak
    else
      match x.pass with
      | some p => .resend p
      | none => if x.buffer.length < 32 then .newFrame else .idleFill

/-- The transmit choice in the link state: none outside ACTIVE (R99). -/
def State.activeChoice (s : State) : Option Choice := if s.ltc.link = .active then some s.ltx.choice else none

/-- LTX begins to send a frame (R89). -/
def State.send (bytes : List Byte) (s : State) : State := { s with tx := .frame bytes }

/-! ### New frames -/

/-- LTX takes a new frame in: it joins the young end of the replay buffer under the next sequence number, and the replay
timer starts if the buffer was empty (R106). -/
def Ltx.takeIn (bytes : List Byte) (x : Ltx) : Ltx :=
  { x with
    buffer := x.buffer ++ [{ number := x.next, bytes := bytes }]
    next := x.next + 1
    replayTimer := if x.buffer.isEmpty then some x.replayTicks else x.replayTimer }

/-- A new frame is taken in and sent (R106). -/
def State.sendNew (bytes : List Byte) (s : State) : State := { s with ltx := s.ltx.takeIn bytes }.send bytes

/-- The queue can go (R48). -/
def State.postedCanGo (s : State) : Bool := !s.pwq.queue.isEmpty && decide (1 ≤ s.isu.creditsAvailable)

/-- The held path can go (R53). -/
def State.heldCanGo (s : State) : Bool := (List.finRange 8).any s.hrt.eligible && s.isu.lowestFreeTag.isSome

/-- The departure of the write at the old end (R49). -/
def State.depart (s : State) : State :=
  match s.pwq.queue with
  | [] => s
  | w :: rest =>
    { s with
      pwq := { s.pwq with queue := rest }
      isu := s.isu.departure
      hrt := s.hrt.departure }.sendNew (pwFrame s.ltx.next w)

/-- The issue of a granted requester's candidate with a tag (R65, R66). -/
def State.issueTo (g : Grant) (tag : Fin 32) (e : Fin 16) (h : Held) (s : State) : State :=
  { s with
    isu := { s.isu.setTag tag .held with pointerA := g.pointerA, pointerB := g.pointerB }
    hrt := s.hrt.issue e tag s.isu.completionTicks }.sendNew (requestFrame s.ltx.next tag h)

/-- Issue: the arbiter grants, and the candidate takes the lowest FREE tag (R65). -/
def State.issue (s : State) : State :=
  match grant s.hrt s.isu, s.isu.lowestFreeTag with
  | some g, some tag =>
    match s.hrt.candidate g.requester with
    | some (e, h) => s.issueTo g tag e h
    | none => s
  | _, _ => s

/-- The path that the policy gives a contested slot (R54, R55). -/
def contestedPath (policy : Policy) (last : Path) : Path :=
  match policy, last with
  | .writesFirst, _ => .posted
  | .alternate, .held => .posted
  | .alternate, .posted => .held

/-- The path that a new-frame slot goes to, none when it is declined (R53). -/
def State.slotPath (s : State) : Option Path :=
  match s.postedCanGo, s.heldCanGo with
  | false, false => none
  | true, false => some .posted
  | false, true => some .held
  | true, true => some (contestedPath s.reg.policy s.pwq.lastContested)

/-- The last contested record after a slot: a contested slot sets it (R53). -/
def State.recordContest (s : State) : State :=
  if s.postedCanGo && s.heldCanGo then
    { s with pwq := { s.pwq with lastContested := contestedPath s.reg.policy s.pwq.lastContested } }
  else s

/-- A new-frame slot is decided (R53). A slot that is declined leaves idle fill on the pair (Table 6-2). -/
def State.newFrameSlot (s : State) : State :=
  match s.slotPath with
  | none => { s with tx := .idleFill }
  | some .posted => s.recordContest.depart
  | some .held => s.recordContest.issue

/-- NEW_FRAME_SLOT (R53): no slot is offered while something stands before it in the transmit choice. With nothing due and
a full replay buffer the free pair carries idle fill (R107, log entry 14). -/
def execNewFrameSlot (s : State) : Host.Outcome State Fault Refusal :=
  s.powered fun s =>
    match s.activeChoice with
    | some .newFrame => s.newFrameSlot
    | some .idleFill => { s with tx := .idleFill }
    | _ => s

/-! ### Control frames and the replay pass -/

/-- SEND_NK: the NK goes out with its recorded number (R107). -/
def execSendNk (s : State) : Host.Outcome State Fault Refusal :=
  s.powered fun s =>
    match s.activeChoice with
    | some (.nk n) => { s with ltx := { s.ltx with nkDue := none } }.send (nkFrame n)
    | _ => s

/-- SEND_AK: the AK carries the last good number; the coalescing count goes to 0 and the ack delay timer stops
(R107, R124). -/
def execSendAk (s : State) : Host.Outcome State Fault Refusal :=
  s.powered fun s =>
    if s.activeChoice = some .ak then
      { s with
        ltx := { s.ltx with akDue := false }
        lrx := { s.lrx with coalescing := 0, ackDelayTimer := none } }.send (akFrame s.lrx.lastGood)
    else s

/-- The frame at the pass position is resent; the position moves on, or the pass ends after the youngest frame and the
replay timer restarts (R108, R111). -/
def State.resend (p : BitVec 7) (s : State) : State :=
  match s.ltx.buffer.dropWhile fun f => f.number != p with
  | [] => { s with ltx := { s.ltx with pass := none } }
  | [f] => { s with ltx := { s.ltx with pass := none, replayTimer := some s.ltx.replayTicks } }.send f.bytes
  | f :: g :: _ => { s with ltx := { s.ltx with pass := some g.number } }.send f.bytes

/-- REPLAY_PASS_RESEND (R108). -/
def execReplayPassResend (s : State) : Host.Outcome State Fault Refusal :=
  s.powered fun s =>
    match s.activeChoice with
    | some (.resend p) => s.resend p
    | _ => s

/-! ### Training frames -/

/-- SEND_SK: in SEEK, at the current grade (R96, R99). -/
def execSendSk (s : State) : Host.Outcome State Fault Refusal :=
  s.powered fun s => if s.ltc.link = .seek then s.send (skFrame s.ltc.current) else s

/-- SEND_AL: in ALIGN, with the next align index (R96, R99). -/
def execSendAl (s : State) : Host.Outcome State Fault Refusal :=
  s.powered fun s =>
    if s.ltc.link = .align then
      { s with ltx := { s.ltx with alignIndex := s.ltx.alignIndex + 1 } }.send (alFrame s.ltx.alignIndex)
    else s

/-- SEND_PM: in EXCHANGE, with our session number, the current grade and offers of 0 (R97, R99). -/
def execSendPm (s : State) : Host.Outcome State Fault Refusal :=
  s.powered fun s =>
    if s.ltc.link = .exchange then s.send (pmFrame s.ltc.ourSession s.ltc.current 0 0) else s

end Sys2Proof.Machine
end

