-- ==== Sys2Proof/Machine/Dispatch.lean ====
section
/-! DEFINITION. The dispatch of every command to its meaning. -/

namespace Sys2Proof.Machine

def exec (i : Instr) (s : State) : Host.Outcome State Fault Refusal :=
  match i with
  | .apertureTransfer requester direction offset size data => Sys2Proof.Machine.execApertureTransfer requester direction offset size data s
  | .registerWrite requester offset size value => Sys2Proof.Machine.execRegisterWrite requester offset size value s
  | .functionReset => Sys2Proof.Machine.execFunctionReset s
  | .enable => Sys2Proof.Machine.execEnable s
  | .restart => Sys2Proof.Machine.execRestart s
  | .retrain => Sys2Proof.Machine.execRetrain s
  | .disable => Sys2Proof.Machine.execDisable s
  | .unassignedLinkCommand code => Sys2Proof.Machine.execUnassignedLinkCommand code s
  | .clearLapse requester level limit => Sys2Proof.Machine.execClearLapse requester level limit s
  | .clearWrapFlag => Sys2Proof.Machine.execClearWrapFlag s
  | .clearRemoteSource marks => Sys2Proof.Machine.execClearRemoteSource marks s
  | .clearLocalCause marks => Sys2Proof.Machine.execClearLocalCause marks s
  | .faultRecordClear => Sys2Proof.Machine.execFaultRecordClear s
  | .chipReset => Sys2Proof.Machine.execChipReset s
  | .chipResetRelease => Sys2Proof.Machine.execChipResetRelease s
  | .cpReceived number tag status data => Sys2Proof.Machine.execCpReceived number tag status data s
  | .evReceived number kind body => Sys2Proof.Machine.execEvReceived number kind body s
  | .akReceived number => Sys2Proof.Machine.execAkReceived number s
  | .nkReceived number => Sys2Proof.Machine.execNkReceived number s
  | .crReceived total => Sys2Proof.Machine.execCrReceived total s
  | .skReceived grade => Sys2Proof.Machine.execSkReceived grade s
  | .alReceived index => Sys2Proof.Machine.execAlReceived index s
  | .pmReceived session grade requestOffer writeOffer => Sys2Proof.Machine.execPmReceived session grade requestOffer writeOffer s
  | .corruptFrameReceived => Sys2Proof.Machine.execCorruptFrameReceived s
  | .rejectedFrameReceived => Sys2Proof.Machine.execRejectedFrameReceived s
  | .completionTimerExpiry entry => Sys2Proof.Machine.execCompletionTimerExpiry entry s
  | .discardTimerExpiry entry => Sys2Proof.Machine.execDiscardTimerExpiry entry s
  | .replayTimerExpiry => Sys2Proof.Machine.execReplayTimerExpiry s
  | .ackDelayTimerExpiry => Sys2Proof.Machine.execAckDelayTimerExpiry s
  | .seekWindowExpiry => Sys2Proof.Machine.execSeekWindowExpiry s
  | .alignCountExpiry => Sys2Proof.Machine.execAlignCountExpiry s
  | .newFrameSlot => Sys2Proof.Machine.execNewFrameSlot s
  | .sendNk => Sys2Proof.Machine.execSendNk s
  | .sendAk => Sys2Proof.Machine.execSendAk s
  | .replayPassResend => Sys2Proof.Machine.execReplayPassResend s
  | .sendSk => Sys2Proof.Machine.execSendSk s
  | .sendAl => Sys2Proof.Machine.execSendAl s
  | .sendPm => Sys2Proof.Machine.execSendPm s

end Sys2Proof.Machine
end

