-- ==== Sys2Proof/WellFormed.lean ====
section
/-! DEFINITION. Which commands can be presented to the part: the ranges that the types of the operands do not already say. -/

namespace Sys2Proof

/-- A well-formed command. A write carries size bytes and a read carries none (R170). The size of a host transfer fits
the detail field that reports it (Table 8-3). An unassigned link command has a code from 5 to 15 (R148). A completion
that is delimited has a data length of at most 64 (R93, R100). -/
def Instr.wf : Instr → Bool
  | .apertureTransfer _ .read _ size data => data.isEmpty && decide (size < 65536)
  | .apertureTransfer _ .write _ size data => decide (data.length = size) && decide (size < 65536)
  | .registerWrite _ _ size _ => decide (size < 65536)
  | .unassignedLinkCommand code => decide (5 ≤ code.toNat)
  | .cpReceived _ _ _ data => decide (data.length ≤ 64)
  | .functionReset | .enable | .restart | .retrain | .disable | .clearLapse _ _ _ | .clearWrapFlag
  | .clearRemoteSource _ | .clearLocalCause _ | .faultRecordClear | .chipReset | .chipResetRelease
  | .evReceived _ _ _ | .akReceived _ | .nkReceived _ | .crReceived _ | .skReceived _ | .alReceived _
  | .pmReceived _ _ _ _ | .corruptFrameReceived | .rejectedFrameReceived | .completionTimerExpiry _
  | .discardTimerExpiry _ | .replayTimerExpiry | .ackDelayTimerExpiry | .seekWindowExpiry | .alignCountExpiry
  | .newFrameSlot | .sendNk | .sendAk | .replayPassResend | .sendSk | .sendAl | .sendPm => true

end Sys2Proof
end

