-- ==== Sys2Proof/Safety.lean ====
section
/-! DEFINITION. The invariants of the part, one for each group of state. Each is kept by every step from every state that
meets it; `Certificates/Slice0/Obligations.lean` states that. Each is decidable, so that a test can show a state that
meets it. -/

namespace Sys2Proof.Machine

/-! ### EVU -/

/-- The two lines are what the pending, enabled and routed causes say (R164); an empty record has no later reports and the
later count fits eight bits (R165, R166); a repeat count is at most 15, and 0 while its source is not pending (R156). -/
abbrev Evu.consistent (e : Evu) : Prop :=
  e.intA = e.onLineA ∧ e.intB = e.onLineB ∧ (e.fault = none → e.laterCount = 0) ∧ e.laterCount ≤ 255 ∧
    ∀ n : Fin 16, e.remoteRepeat[n] ≤ 15 ∧ (e.remotePending.getLsbD n = false → e.remoteRepeat[n] = 0)

/-! ### HRT -/

/-- The entries of a requester that are not FREE. -/
def Hrt.entriesOf (r : Fin 8) (t : Hrt) : List (Fin 16) :=
  (List.finRange 16).filter fun e => t.entries[e].any fun h => h.requester == r

/-- No two entries share a key (R2). -/
abbrev Hrt.keysDistinct (t : Hrt) : Prop :=
  ∀ e f : Fin 16, ∀ h ∈ t.entries[e], ∀ g ∈ t.entries[f], h.key = g.key → e = f

/-- A requester's creation orders are distinct and run from 1 to its held count, and its held count is the number of its
entries (R3). -/
abbrev Hrt.ordersRank (t : Hrt) : Prop :=
  (∀ e f : Fin 16, ∀ h ∈ t.entries[e], ∀ g ∈ t.entries[f], h.requester = g.requester → h.order = g.order → e = f) ∧
    (∀ e : Fin 16, ∀ h ∈ t.entries[e], 1 ≤ h.order ∧ h.order ≤ t.requesters[h.requester].heldCount) ∧
    ∀ r : Fin 8, t.requesters[r].heldCount = (t.entriesOf r).length

/-- Held limits lie between 1 and 4, no requester holds more than four entries, and the two discard counts stop at their
ends (R15, R23, R25). -/
abbrev Hrt.withinLimits (t : Hrt) : Prop :=
  (∀ r : Fin 8, 1 ≤ t.requesters[r].heldLimit.toNat ∧ t.requesters[r].heldLimit.toNat ≤ 4 ∧
      t.requesters[r].heldCount ≤ 4 ∧ t.requesters[r].discardRun ≤ 15) ∧
    t.discardCount ≤ 65535

/-- Every entry's size and offset obey the transfer size rule (R5). -/
abbrev Hrt.sizesRuled (t : Hrt) : Prop := ∀ e : Fin 16, ∀ h ∈ t.entries[e], sizeRule h.offset h.size = true

/-- The held request table is consistent. -/
abbrev Hrt.consistent (t : Hrt) : Prop := t.keysDistinct ∧ t.ordersRank ∧ t.withinLimits ∧ t.sizesRuled

/-! ### Data lengths -/

/-- An entry's write data and read data have its size (Table 1-7). -/
abbrev Held.dataFits (h : Held) : Prop :=
  (match h.kind with
    | .read => true
    | .hwrite data => decide (data.length = h.size)) = true ∧
  (match h.phase, h.kind with
    | .ready (some data) _, .read => decide (data.length = h.size)
    | .ready none _, .hwrite _ => true
    | .ready _ _, _ => false
    | _, _ => true) = true

/-- The bytes of the frame being received do not make a whole frame yet (R89, R104). -/
abbrev Lrx.framingOpen (x : Lrx) : Prop :=
  ∀ bytes ∈ x.framing,
    (match extent bytes with
      | .undecided => true
      | .lost => false
      | .length n => decide (bytes.length < n)) = true

/-- The waiting commands are well-formed, the frame being received is not whole yet, and data of held entries and of
posted writes have the size of their transfer (Table 1-7, R45). -/
abbrev State.dataFits (s : State) : Prop :=
  (∀ c ∈ s.pending, c.wf = true) ∧ s.lrx.framingOpen ∧ (∀ e : Fin 16, ∀ h ∈ s.hrt.entries[e], h.dataFits) ∧
    ∀ w ∈ s.pwq.queue, w.data.length = w.size

/-! ### PWQ and its order with held requests -/

/-- The posted writes that an entry waits for: none once it is no longer QUEUED. -/
def Held.waitsFor (h : Held) : Nat :=
  match h.phase with
  | .queued n => n
  | .issued _ _ | .ready _ _ | .failed _ _ => 0

/-- The queue holds at most sixteen writes, and no entry waits for more writes than the queue holds (R45, R18). -/
abbrev State.writesAheadFit (s : State) : Prop :=
  s.pwq.queue.length ≤ 16 ∧ s.pwq.lostWrites ≤ 65535 ∧
    ∀ e : Fin 16, ∀ h ∈ s.hrt.entries[e], h.waitsFor ≤ s.pwq.queue.length

/-- Among the QUEUED entries of one requester, an older entry never waits for more writes than a younger one (R18). -/
abbrev Hrt.olderWaitsLess (t : Hrt) : Prop :=
  ∀ e f : Fin 16, ∀ h ∈ t.entries[e], ∀ g ∈ t.entries[f],
    h.requester = g.requester ∧ h.isQueued = true ∧ g.isQueued = true ∧ h.order ≤ g.order → h.waitsFor ≤ g.waitsFor

/-- The order of held requests and posted writes is kept (R3, R18, R51). -/
abbrev State.writesOrdered (s : State) : Prop :=
  s.hrt.ordersRank ∧ s.writesAheadFit ∧ s.hrt.olderWaitsLess

/-! ### ISU -/

/-- No more credits are in use than the partner offered, and it offered at most 64 (R75, R140). -/
abbrev Isu.creditsFit (u : Isu) : Prop := u.creditsInUse ≤ u.writeOffer ∧ u.writeOffer ≤ 64

/-- A session stands nowhere in OFF and FAILED and everywhere in ACTIVE (Table 7-2, R147). -/
abbrev Ltc.sessionPlaced (c : Ltc) : Prop :=
  (c.link = .off ∨ c.link = .failed → c.partnerSession = 0) ∧ (c.link = .active → c.partnerSession ≠ 0)

/-- The offers in force are those recorded; there are none while no session stands, and otherwise the request offer is 1
to 32 and the write offer 1 to 64 (R64, R75, R84, R140). -/
abbrev State.offersRecorded (s : State) : Prop :=
  s.isu.allowance = s.ltc.requestOffer ∧ s.isu.writeOffer = s.ltc.writeOffer ∧
    (s.ltc.partnerSession = 0 → s.isu.allowance = 0 ∧ s.isu.writeOffer = 0) ∧
    (s.ltc.partnerSession ≠ 0 →
      1 ≤ s.isu.allowance ∧ s.isu.allowance ≤ 32 ∧ 1 ≤ s.isu.writeOffer ∧ s.isu.writeOffer ≤ 64)

/-- A tag is HELD exactly while one ISSUED entry holds it, and only tags below the allowance are in use (R63, R64). -/
abbrev State.tagsMatch (s : State) : Prop :=
  (∀ t : Fin 32, s.isu.tags[t] = .held ↔ ∃ e : Fin 16, s.hrt.entries[e].any (Held.holdsTag t) = true) ∧
    (∀ t : Fin 32, ∀ e f : Fin 16, s.hrt.entries[e].any (Held.holdsTag t) = true →
      s.hrt.entries[f].any (Held.holdsTag t) = true → e = f) ∧
    ∀ t : Fin 32, s.isu.tags[t] ≠ .free → t.val < s.isu.allowance

/-- The ledger of the session: where it stands, what it offers, which entry holds which tag, and the credits in use. -/
abbrev State.ledgerKept (s : State) : Prop :=
  s.ltc.sessionPlaced ∧ s.offersRecorded ∧ s.tagsMatch ∧ s.isu.creditsFit

/-- The arbiter's place for a position of ring A, counted from the position after pointer A (R79, R81). -/
def RingA.distance (pointer : Option RingA) (x : RingA) : Nat :=
  let place : RingA → Nat := fun y =>
    match y with
    | .requester r => r.val
    | .bSlot => 8
  match pointer with
  | none => place x
  | some p => (place x + 8 - place p) % 9

/-! ### LTX -/

/-- The replay buffer holds at most 32 frames, under consecutive numbers that end just below the next one (R105, R106). -/
abbrev Ltx.numbered (x : Ltx) : Prop :=
  x.buffer.length ≤ 32 ∧
    x.buffer.map SentFrame.number =
      (List.range x.buffer.length).map fun i => x.next - BitVec.ofNat 7 (x.buffer.length - i)

/-- The position of a running pass is the number of a frame in the buffer (R108). -/
abbrev Ltx.passPlaced (x : Ltx) : Prop := ∀ p ∈ x.pass, ∃ f ∈ x.buffer, f.number = p

/-- The seek window timer is stopped in ACTIVE (R136). -/
abbrev Ltc.windowStopped (c : Ltc) : Prop := c.link = .active → c.seekTimer = none

/-- Outside ACTIVE no pass, no replay timer and no due control frame is left (R116, R118), no session means an empty
buffer, and a running replay timer means that a frame waits for acknowledgement (R111). -/
abbrev State.replayKept (s : State) : Prop :=
  s.ltc.sessionPlaced ∧ s.ltc.windowStopped ∧ s.ltx.numbered ∧ s.ltx.passPlaced ∧
    (s.ltc.partnerSession = 0 → s.ltx.buffer = []) ∧
    (s.ltx.replayTimer ≠ none → s.ltx.buffer ≠ []) ∧
    (s.ltc.link ≠ .active →
      s.ltx.pass = none ∧ s.ltx.replayTimer = none ∧ s.ltx.akDue = false ∧ s.ltx.nkDue = none ∧
        s.lrx.ackDelayTimer = none)

/-! ### LTC -/

/-- The link is in one of the three training states. -/
abbrev LinkState.training (l : LinkState) : Prop := l = .seek ∨ l = .align ∨ l = .exchange

/-- The seek window timer runs in the three training states alone and the align count timer in ALIGN alone; the runs
belong to their states; counts stop at their ends; and our session number is 0 only before the first fresh start
(Table 7-2, R132, R136, R139). -/
abbrev Ltc.trainingKept (c : Ltc) : Prop :=
  (c.seekTimer ≠ none ↔ c.link.training) ∧ (c.alignTimer ≠ none → c.link = .align) ∧
    (c.alRun ≠ none → c.link = .align ∨ c.link = .exchange) ∧ c.attempts ≤ 15 ∧ c.skRun ≤ 3 ∧
    (c.link = .seek → c.skRun ≤ 2) ∧ (c.ourSession = 0 → c.link = .off)

/-! ### The link down -/

/-- In OFF and FAILED no request is in flight, no write waits, no frame waits for acknowledgement, every tag is FREE and the
transmit pair carries idle fill (R13, R29, R58, R86, R99, R118). -/
abbrev State.downEmpty (s : State) : Prop :=
  s.ltc.link = .off ∨ s.ltc.link = .failed →
    s.hrt.noneInFlight = true ∧ s.pwq.queue = [] ∧ s.ltx.buffer = [] ∧ (∀ t : Fin 32, s.isu.tags[t] = .free) ∧
      s.tx = .idleFill

/-! ### Configuration -/

/-- Every stored control value lies in its range (R28, R71, R127, R155, R178), and the retry counts and the coalescing
count in theirs (Table 6-1, Table 6-4). -/
abbrev State.controlsInRange (s : State) : Prop :=
  s.hrt.discardInterval ≠ 0 ∧ s.isu.completionTimeout ≠ 0 ∧ s.reg.tbdiv ≠ 0 ∧ s.ltc.seekWindow ≠ 0 ∧
    s.ltc.alignCount ≠ 0 ∧ s.ltx.replayInterval ≠ 0 ∧ (1 ≤ s.ltx.shortLimit.toNat ∧ s.ltx.shortLimit.toNat ≤ 4) ∧
    (1 ≤ s.lrx.ackCount.toNat ∧ s.lrx.ackCount.toNat ≤ 16) ∧ s.lrx.ackDelay ≠ 0 ∧ s.lrx.lineLossThreshold ≠ 0 ∧
    s.ltx.shortRetry ≤ 4 ∧ s.ltx.longRetry ≤ 7 ∧ s.lrx.coalescing ≤ 16 ∧ s.lrx.lineLossRun ≤ 15

/-! ### RESET_N -/

/-- While RESET_N is low every item of the part holds its chip reset value (R180); the queue, the receive pair, the
model's counter and the answer given to the last host transfer are not items of the part (log entries 11 and 17). The
reset values of the clocks left and of the align index are the model's choice (log entries 5 and 10). -/
abbrev State.heldWhileLow (s : State) : Prop :=
  s.resetN = false →
    s = { State.reset with
      resetN := false, answer := s.answer, rxLine := s.rxLine, freeDraws := s.freeDraws, pending := s.pending }

end Sys2Proof.Machine
end

