-- ==== Sys2Proof/Certificates/Slice0/Obligations.lean ====
section
/-! DEFINITION. The statements for the provers. A result is stated as the whole next state, so a statement of what a
command does is also the statement of what it leaves unchanged. -/

section

open Sys2Proof Sys2Proof.Machine

/-! ### The machine -/

/-- A step of a state with a command at the front of its queue is that command's effect on the state with the queue's
rest (spec/95: each command is one whole and indivisible step). That all commands wait in one queue is the model's reading
(log entry 1). -/
def Obligations.StepRunsTheFrontCommand : Prop :=
  ∀ (c : Instr) (rest : List Instr) (s : State),
    step { s with pending := c :: rest } = exec c { s with pending := rest }

/-- On an empty queue with nothing on the receive pair, a step is one host clock; at the end of a tick every running
timer has counted, and exactly the expiries of the timers that ran out wait as commands, each once, in an order that is
not stated (R178). That an empty queue lets a clock pass is the model's choice (log entry 2), and so are the free order
(log entry 4) and that the tick under way when a timer starts is the first that it counts (log entry 23). -/
def Obligations.TickCountsTimersAndQueuesExpiries : Prop :=
  ∀ s : State, s.pending = [] → s.rxLine = [] → s.resetN = true →
    (1 < s.reg.clocksLeft → step s = .next { s with reg := { s.reg with clocksLeft := s.reg.clocksLeft - 1 } }) ∧
    (s.reg.clocksLeft ≤ 1 → ∃ (order : List Instr) (draws : Nat),
      step s = .next
        { s with
          hrt := { s.hrt with
            entries := Vector.ofFn fun e : Fin 16 => s.hrt.entries[e].map fun h =>
              match h.phase with
              | .queued _ => h
              | .issued tag n => { h with phase := .issued tag (n - 1) }
              | .ready d n => { h with phase := .ready d (n - 1) }
              | .failed c n => { h with phase := .failed c (n - 1) } }
          ltx := { s.ltx with replayTimer := s.ltx.replayTimer.map (· - 1) }
          lrx := { s.lrx with ackDelayTimer := s.lrx.ackDelayTimer.map (· - 1) }
          ltc := { s.ltc with
            seekTimer := s.ltc.seekTimer.map (· - 1), alignTimer := s.ltc.alignTimer.map (· - 1) }
          reg := { s.reg with clocksLeft := s.reg.tbdiv.toNat }
          freeDraws := draws
          pending := order } ∧
      order.Nodup ∧
      ∀ c : Instr, c ∈ order ↔
        (∃ e : Fin 16, ∃ h ∈ s.hrt.entries[e], ∃ n ≤ 1,
          (∃ tag, h.phase = .issued tag n ∧ c = .completionTimerExpiry e) ∨
          (∃ d, h.phase = .ready d n ∧ c = .discardTimerExpiry e) ∨
          (∃ f, h.phase = .failed f n ∧ c = .discardTimerExpiry e)) ∨
        (∃ n ≤ 1, s.ltx.replayTimer = some n ∧ c = .replayTimerExpiry) ∨
        (∃ n ≤ 1, s.lrx.ackDelayTimer = some n ∧ c = .ackDelayTimerExpiry) ∨
        (∃ n ≤ 1, s.ltc.seekTimer = some n ∧ c = .seekWindowExpiry) ∨
        (∃ n ≤ 1, s.ltc.alignTimer = some n ∧ c = .alignCountExpiry))

/-- Every command answers a next state, and none ends in a fault or a refusal of the machine: the model's reading (log
entry 20). No command touches the waiting commands, the receive pair or the model's own counter; that CHIP_RESET keeps
them too is the model's choice (log entry 17). -/
def Obligations.NoCommandStopsOrTouchesTheQueue : Prop :=
  ∀ (c : Instr) (s : State),
    ∃ t, exec c s = .next t ∧ t.pending = s.pending ∧ t.rxLine = s.rxLine ∧ t.freeDraws = s.freeDraws

/-! ### Resets -/

/-- While RESET_N is low a host transfer, on either select, is answered FAULT and changes nothing else, and no other event
but the two of the pin changes anything (R180). -/
def Obligations.LowResetPinStopsEveryCommand : Prop :=
  ∀ s : State, s.resetN = false →
    (∀ r d o n data, exec (.apertureTransfer r d o n data) s = .next { s with answer := some .fault }) ∧
    (∀ r o n v, exec (.registerWrite r o n v) s = .next { s with answer := some .fault }) ∧
    (∀ code, exec (.unassignedLinkCommand code) s = .next { s with answer := some .fault }) ∧
    (∀ r l n, exec (.clearLapse r l n) s = .next { s with answer := some .fault }) ∧
    (∀ m, exec (.clearRemoteSource m) s = .next { s with answer := some .fault }) ∧
    (∀ m, exec (.clearLocalCause m) s = .next { s with answer := some .fault }) ∧
    (∀ c ∈ [Instr.functionReset, .enable, .restart, .retrain, .disable, .clearWrapFlag, .faultRecordClear],
      exec c s = .next { s with answer := some .fault }) ∧
    (∀ n t st data, exec (.cpReceived n t st data) s = .next s) ∧
    (∀ n k b, exec (.evReceived n k b) s = .next s) ∧
    (∀ n, exec (.akReceived n) s = .next s ∧ exec (.nkReceived n) s = .next s) ∧
    (∀ n, exec (.crReceived n) s = .next s ∧ exec (.alReceived n) s = .next s) ∧
    (∀ g, exec (.skReceived g) s = .next s) ∧
    (∀ n g q w, exec (.pmReceived n g q w) s = .next s) ∧
    (∀ e, exec (.completionTimerExpiry e) s = .next s ∧ exec (.discardTimerExpiry e) s = .next s) ∧
    ∀ c ∈ [Instr.corruptFrameReceived, .rejectedFrameReceived, .replayTimerExpiry, .ackDelayTimerExpiry,
        .seekWindowExpiry, .alignCountExpiry, .newFrameSlot, .sendNk, .sendAk, .replayPassResend, .sendSk, .sendAl,
        .sendPm],
      exec c s = .next s

/-- CHIP_RESET puts every item at its chip reset value, from any state, and CHIP_RESET_RELEASE raises the pin and changes
nothing else (R31, R32, R62, R87, R118, R126, R154, R168, R177, R178, R180). Three values are the model's, since the spec
states none: the clocks left of the first tick (log entry 5), the align index (log entry 10) and the last answer (log
entry 11). What stands outside the part is kept (log entry 17). -/
def Obligations.ChipResetGivesResetValues : Prop :=
  ∀ s : State,
    exec .chipReset s = .next
      { win := Vector.replicate 8 { mode := .off, base := 0, sizeCode := 0, remoteBase := 0, segment := 0 }
        hrt :=
          { entries := Vector.replicate 16 none
            requesters :=
              Vector.replicate 8 { level := .a, heldLimit := 2, heldCount := 0, discardRun := 0, lapsed := false }
            discardInterval := 16
            lapseThreshold := 4
            discardCount := 0 }
        pwq := { queue := [], lostWrites := 0, lastContested := .held }
        isu :=
          { tags := Vector.replicate 32 .free, allowance := 0, writeOffer := 0, sent := 0, returned := 0
            pointerA := none, pointerB := none, completionTimeout := 50 }
        ltx :=
          { next := 0, buffer := [], pass := none, shortRetry := 0, longRetry := 0, replayTimer := none
            replayCounter := 0, wrapFlag := false, akDue := false, nkDue := none, replayInterval := 25
            shortLimit := 2, longLimit := 3, alignIndex := 0 }
        lrx :=
          { expected := 0, nakOpen := false, coalescing := 0, ackDelayTimer := none, lineLossRun := 0, ackCount := 8
            ackDelay := 8, lineLossThreshold := 8, framing := none }
        ltc :=
          { link := .off, current := .g1, staged := .g1, lastGood := .g1, trial := false, ourSession := 0
            partnerSession := 0, requestOffer := 0, writeOffer := 0, attempts := 0, skRun := 0, alRun := none
            seekTimer := none, alignTimer := none, failure := .none, lastReason := .none, command := none
            seekWindow := 10, attemptLimit := 8, lockBypass := false, alignCount := 20 }
        evu :=
          { remotePending := 0, remoteRepeat := Vector.replicate 16 0, remoteEnable := 0, remoteRoute := 0
            localPending := 0, localEnable := 0, localRoute := 0, fault := none, laterCount := 0
            intA := false, intB := false }
        reg := { policy := .writesFirst, intakeHold := false, tbdiv := 100, clocksLeft := 100 }
        resetN := false
        answer := none
        tx := .idleFill
        rxLine := s.rxLine
        freeDraws := s.freeDraws
        pending := s.pending } ∧
    exec .chipResetRelease s = .next { s with resetN := true }

/-- FUNCTION_RESET clears the runtime state of every block and keeps its configuration, the grades, our session number and
the timebase (R30, R44, R61, R87, R104, R118, R126, R154, R168, R179). That the align index goes to 0 is the model's choice
(log entry 10). -/
def Obligations.FunctionResetKeepsConfiguration : Prop :=
  ∀ s : State, s.resetN = true →
    exec .functionReset s = .next
      { s with
        hrt := { s.hrt with
          entries := Vector.replicate 16 none
          requesters := Vector.ofFn fun r : Fin 8 =>
            { s.hrt.requesters[r] with heldCount := 0, discardRun := 0, lapsed := false }
          discardCount := 0 }
        pwq := { queue := [], lostWrites := 0, lastContested := .held }
        isu := { s.isu with
          tags := Vector.replicate 32 .free
          allowance := 0, writeOffer := 0, sent := 0, returned := 0, pointerA := none, pointerB := none }
        ltx := { s.ltx with
          next := 0, buffer := [], pass := none, shortRetry := 0, longRetry := 0, replayTimer := none
          replayCounter := 0, wrapFlag := false, akDue := false, nkDue := none, alignIndex := 0 }
        lrx := { s.lrx with
          expected := 0, nakOpen := false, coalescing := 0, ackDelayTimer := none, lineLossRun := 0, framing := none }
        ltc := { s.ltc with
          link := .off, trial := false, partnerSession := 0, requestOffer := 0, writeOffer := 0, attempts := 0
          skRun := 0, alRun := none, seekTimer := none, alignTimer := none, failure := .none, lastReason := .none
          command := none }
        evu := { s.evu with
          remotePending := 0, remoteRepeat := Vector.replicate 16 0, localPending := 0, fault := none, laterCount := 0
          intA := false, intB := false }
        reg := { s.reg with intakeHold := false }
        tx := .idleFill
        answer := some (.done []) }

/-! ### The register window -/

/-- Each register reads its chip reset value of Table 9-3 after reset. The map of Table 9-2 is one to one: the register
at a register's offset is that register, offsets are multiples of 4 inside the 4 KiB window, and an aligned offset with
no register reads 0. In every state with RESET_N high each register, read at its offset, presents its fields at the bits
of Table 9-3 with the codes of Tables 8-4 and 9-4, and every other bit reads 0 (R173, R175); the identity register,
quiet status and identification have statements of their own. -/
def Obligations.RegisterMapAndResetValues : Prop :=
  (∀ r : Register, State.reset.registerRead (BitVec.ofNat 12 r.offset) 4 = some
      (match r with
        | .identity => 0x24160001
        | .tbdiv => 100
        | .quietStatus => 0xF
        | .grades => 0x111
        | .trainingControls => 0x0014080A
        | .retryControls => 0x00003219
        | .ackControls => 0x00080808
        | .requesterRecord _ => 0x20
        | .discardInterval => 16
        | .lapseThreshold => 4
        | .completionTimeout => 50
        | _ => 0)) ∧
  (∀ r : Register, registerAt r.offset = some r ∧ r.offset % 4 = 0 ∧ r.offset < 4096) ∧
    (∀ (o : Nat) (r : Register), registerAt o = some r → r.offset = o) ∧
    (∀ (s : State) (o : BitVec 12), s.resetN = true → o.toNat % 4 = 0 → registerAt o.toNat = none →
      s.registerRead o 4 = some 0) ∧
    -- the codes of Tables 8-4, 9-3 and 9-4
    (linkCode .off = 0 ∧ linkCode .seek = 1 ∧ linkCode .align = 2 ∧ linkCode .exchange = 3 ∧ linkCode .active = 4 ∧
      linkCode .failed = 5) ∧
    (linkFailureCode .none = 0 ∧ linkFailureCode .trainTimeout = 1 ∧ linkFailureCode .replayExhausted = 2) ∧
    (reasonCode .none = 0 ∧ reasonCode .software = 1 ∧ reasonCode .replay = 2 ∧ reasonCode .lineLoss = 3 ∧
      reasonCode .partner = 4) ∧
    (gradeNumber .g1 = 1 ∧ gradeNumber .g2 = 2 ∧ gradeNumber .g3 = 3 ∧ gradeNumber .g4 = 4) ∧
    (modeCode .off = 0 ∧ modeCode .posted = 1 ∧ modeCode .strict = 2 ∧ modeCode .readonly = 3) ∧
    (failCauseCode .remoteFault = 1 ∧ failCauseCode .unsupported = 2 ∧ failCauseCode .noCompletion = 3 ∧
      failCauseCode .badCompletion = 4 ∧ failCauseCode .linkLost = 5) ∧
    ([FaultKind.badSize, .windowMiss, .readOnlyWrite, .linkDownRequest, .lapsedRequest, .returnMismatch, .remoteFault,
        .unsupported, .noCompletion, .badCompletion, .badTag, .creditOverrun, .ackRange, .unknownEvent, .writeFault,
        .writesLost, .paramInvalid].map faultCode =
      [1, 2, 3, 4, 5, 6, 7, 8, 9, 10, 11, 12, 13, 14, 15, 16, 17]) ∧
    ∀ s : State, s.resetN = true →
      -- write-only registers
      (s.registerRead 0x00C 4 = some 0 ∧ s.registerRead 0x040 4 = some 0 ∧ s.registerRead 0x2A4 4 = some 0) ∧
      -- REG
      s.registerRead 0x004 4 = some
        (0#30 ++ BitVec.ofBool s.reg.intakeHold ++ BitVec.ofBool (decide (s.reg.policy = .alternate))) ∧
      s.registerRead 0x008 4 = some (0#24 ++ s.reg.tbdiv) ∧
      -- LTC
      s.registerRead 0x044 4 = some
        (0#4 ++ BitVec.ofNat 4 s.ltc.attempts ++ 0#3 ++ BitVec.ofBool (s.ltc.command.any CommandStatus.accepted) ++
          (s.ltc.command.map CommandStatus.code).getD 0 ++ 0#1 ++ reasonCode s.ltc.lastReason ++ 0#2 ++
          linkFailureCode s.ltc.failure ++ 0#3 ++ BitVec.ofBool s.ltc.trial ++ 0#1 ++ linkCode s.ltc.link) ∧
      s.registerRead 0x048 4 = some
        (0#21 ++ gradeNumber s.ltc.lastGood ++ 0#1 ++ gradeNumber s.ltc.current ++ 0#1 ++ gradeNumber s.ltc.staged) ∧
      s.registerRead 0x04C 4 = some
        (0#8 ++ s.ltc.alignCount ++ 0#3 ++ BitVec.ofBool s.ltc.lockBypass ++ s.ltc.attemptLimit ++ s.ltc.seekWindow) ∧
      s.registerRead 0x068 4 = some (0#20 ++ s.ltc.partnerSession ++ 0#4 ++ s.ltc.ourSession) ∧
      s.registerRead 0x06C 4 = some
        (0#9 ++ BitVec.ofNat 7 s.ltc.writeOffer ++ 0#10 ++ BitVec.ofNat 6 s.ltc.requestOffer) ∧
      -- LTX
      s.registerRead 0x054 4 = some (0#17 ++ s.ltx.longLimit ++ 0#1 ++ s.ltx.shortLimit ++ s.ltx.replayInterval) ∧
      s.registerRead 0x058 4 = some
        (0#9 ++ BitVec.ofNat 3 s.ltx.longRetry ++ 0#1 ++ BitVec.ofNat 3 s.ltx.shortRetry ++
          BitVec.ofBool s.ltx.pass.isSome ++ 0#1 ++ BitVec.ofNat 6 s.ltx.buffer.length ++ 0#1 ++ s.ltx.next) ∧
      s.registerRead 0x05C 4 = some (0#15 ++ BitVec.ofBool s.ltx.wrapFlag ++ s.ltx.replayCounter) ∧
      -- LRX
      s.registerRead 0x060 4 = some
        (0#12 ++ s.lrx.lineLossThreshold ++ 0#2 ++ s.lrx.ackDelay ++ 0#3 ++ s.lrx.ackCount) ∧
      s.registerRead 0x064 4 = some (0#20 ++ BitVec.ofNat 4 s.lrx.lineLossRun ++ 0#1 ++ s.lrx.expected) ∧
      -- WIN
      (∀ w : Fin 8,
        s.registerRead (BitVec.ofNat 12 (0x080 + 16 * w.val)) 4 = some
          (0#19 ++ BitVec.ofNat 5 s.win[w].sizeCode.val ++ 0#2 ++ s.win[w].segment ++ 0#2 ++
            modeCode s.win[w].mode) ∧
        s.registerRead (BitVec.ofNat 12 (0x084 + 16 * w.val)) 4 = some (0#4 ++ s.win[w].base) ∧
        s.registerRead (BitVec.ofNat 12 (0x088 + 16 * w.val)) 4 = some (s.win[w].remoteBase.extractLsb' 0 32) ∧
        s.registerRead (BitVec.ofNat 12 (0x08C + 16 * w.val)) 4 = some
          (0#24 ++ s.win[w].remoteBase.extractLsb' 32 8)) ∧
      -- HRT
      (∀ r : Fin 8,
        s.registerRead (BitVec.ofNat 12 (0x100 + 4 * r.val)) 4 = some
          (0#11 ++ BitVec.ofBool s.hrt.requesters[r].lapsed ++ BitVec.ofNat 4 s.hrt.requesters[r].discardRun ++ 0#1 ++
            BitVec.ofNat 3 s.hrt.requesters[r].heldCount ++ 0#5 ++ s.hrt.requesters[r].heldLimit ++ 0#3 ++
            BitVec.ofBool (decide (s.hrt.requesters[r].level = .b)))) ∧
      s.registerRead 0x120 4 = some (0#24 ++ s.hrt.discardInterval) ∧
      s.registerRead 0x124 4 = some (0#28 ++ s.hrt.lapseThreshold) ∧
      s.registerRead 0x12C 4 = some (0#16 ++ BitVec.ofNat 16 s.hrt.discardCount) ∧
      (∀ e : Fin 16,
        (s.hrt.entries[e] = none → s.registerRead (BitVec.ofNat 12 (0x140 + 4 * e.val)) 4 = some 0) ∧
        ∀ (h : Held) (state : BitVec 3) (tag : BitVec 5) (cause : BitVec 3), s.hrt.entries[e] = some h →
          ((∃ n, h.phase = .queued n ∧ state = 1 ∧ tag = 0 ∧ cause = 0) ∨
            (∃ (u : Fin 32) (n : Nat), h.phase = .issued u n ∧ state = 2 ∧ tag = BitVec.ofNat 5 u.val ∧ cause = 0) ∨
            (∃ d n, h.phase = .ready d n ∧ state = 3 ∧ tag = 0 ∧ cause = 0) ∨
            (∃ f n, h.phase = .failed f n ∧ state = 4 ∧ tag = 0 ∧ cause = failCauseCode f)) →
          s.registerRead (BitVec.ofNat 12 (0x140 + 4 * e.val)) 4 = some
            (0#5 ++ cause ++ 0#3 ++ tag ++ 0#1 ++ BitVec.ofNat 3 h.window.val ++ 0#1 ++ BitVec.ofNat 3 h.order ++
              0#1 ++ BitVec.ofNat 3 h.requester.val ++ BitVec.ofBool (decide (h.kind ≠ .read)) ++ state)) ∧
      -- ISU
      s.registerRead 0x128 4 = some (0#24 ++ s.isu.completionTimeout) ∧
      s.registerRead 0x180 4 = some
        (0#9 ++ BitVec.ofNat 7 s.isu.writeOffer ++ 0#10 ++ BitVec.ofNat 6 s.isu.allowance) ∧
      s.registerRead 0x184 4 = some
        (0#9 ++ BitVec.ofNat 7 (s.isu.writeOffer - (s.isu.sent - s.isu.returned).toNat) ++ 0#10 ++
          BitVec.ofNat 6
            ((List.finRange 32).countP fun u => decide (s.isu.tags[u] = .free ∧ u.val < s.isu.allowance))) ∧
      (∃ v : Word, s.registerRead 0x188 4 = some v ∧
        ∀ u : Fin 32, v.getLsbD u.val = decide (s.isu.tags[u] = .quarantined)) ∧
      -- PWQ
      s.registerRead 0x18C 4 = some
        (BitVec.ofNat 16 s.pwq.lostWrites ++ 0#11 ++ BitVec.ofNat 5 s.pwq.queue.length) ∧
      -- EVU
      s.registerRead 0x200 4 = some (0#16 ++ s.evu.remotePending) ∧
      s.registerRead 0x204 4 = some (0#16 ++ s.evu.remoteEnable) ∧
      s.registerRead 0x208 4 = some (0#16 ++ s.evu.remoteRoute) ∧
      s.registerRead 0x20C 4 = some (0#24 ++ s.evu.localPending) ∧
      s.registerRead 0x210 4 = some (0#24 ++ s.evu.localEnable) ∧
      s.registerRead 0x214 4 = some (0#24 ++ s.evu.localRoute) ∧
      (∃ low high : Word, s.registerRead 0x220 4 = some low ∧ s.registerRead 0x224 4 = some high ∧
        ∀ n : Fin 8,
          low.extractLsb' (4 * n.val) 4 = BitVec.ofNat 4 s.evu.remoteRepeat[n.val] ∧
          high.extractLsb' (4 * n.val) 4 = BitVec.ofNat 4 s.evu.remoteRepeat[n.val + 8]) ∧
      s.registerRead 0x280 4 = some
        (0#16 ++ BitVec.ofNat 8 s.evu.laterCount ++ 0#3 ++
          (s.evu.fault.map fun r => faultCode r.kind).getD 0) ∧
      s.registerRead 0x284 4 = some
        (0#25 ++ BitVec.ofBool (s.evu.fault.bind FaultRecord.detail).isSome ++
          BitVec.ofBool (s.evu.fault.bind FaultRecord.remote).isSome ++
          BitVec.ofBool (s.evu.fault.bind FaultRecord.tag).isSome ++
          BitVec.ofBool (s.evu.fault.bind FaultRecord.entry).isSome ++
          BitVec.ofBool (s.evu.fault.bind FaultRecord.window).isSome ++
          BitVec.ofBool (s.evu.fault.bind FaultRecord.offset).isSome ++
          BitVec.ofBool (s.evu.fault.bind FaultRecord.requester).isSome) ∧
      s.registerRead 0x288 4 = some
        (0#11 ++ BitVec.ofNat 5 ((s.evu.fault.bind FaultRecord.tag).getD 0).val ++ 0#4 ++
          BitVec.ofNat 4 ((s.evu.fault.bind FaultRecord.entry).getD 0).val ++ 0#1 ++
          BitVec.ofNat 3 ((s.evu.fault.bind FaultRecord.window).getD 0).val ++ 0#1 ++
          BitVec.ofNat 3 ((s.evu.fault.bind FaultRecord.requester).getD 0).val) ∧
      s.registerRead 0x28C 4 = some (0#4 ++ (s.evu.fault.bind FaultRecord.offset).getD 0) ∧
      s.registerRead 0x290 4 = some
        (((s.evu.fault.bind FaultRecord.remote).getD (0, 0)).1.extractLsb' 0 32) ∧
      s.registerRead 0x294 4 = some
        (0#22 ++ ((s.evu.fault.bind FaultRecord.remote).getD (0, 0)).2 ++
          ((s.evu.fault.bind FaultRecord.remote).getD (0, 0)).1.extractLsb' 32 8) ∧
      s.registerRead 0x298 4 = some (0#16 ++ (s.evu.fault.bind FaultRecord.detail).getD 0)

/-- The identity register reads 24160001H in every state, and writes to it change nothing (R176). -/
def Obligations.IdentityRegisterIsConstant : Prop :=
  ∀ s : State, s.resetN = true →
    s.registerRead 0x000 4 = some 0x24160001 ∧
      ∀ (q : Fin 8) (v : Word), exec (.registerWrite q 0x000 4 v) s = .next { s with answer := some (.done []) }

/-- A register access is taken when RESET_N is high, its size is 4 bytes and its offset is a multiple of 4: a write is then
answered DONE and a read has a value. Any other is answered FAULT, reads nothing and changes no state. The requester number
has no effect (R172). -/
def Obligations.RegisterAccessTakenOrAnsweredFault : Prop :=
  ∀ (s : State) (q q' : Fin 8) (o : BitVec 12) (n : Nat) (v : Word),
    (s.resetN = false ∨ n ≠ 4 ∨ o.toNat % 4 ≠ 0 →
      exec (.registerWrite q o n v) s = .next { s with answer := some .fault } ∧ s.registerRead o n = none) ∧
    (s.resetN = true ∧ n = 4 ∧ o.toNat % 4 = 0 →
      (∃ t, exec (.registerWrite q o n v) s = .next t ∧ t.answer = some (.done [])) ∧
        (s.registerRead o n).isSome = true) ∧
    exec (.registerWrite q o n v) s = exec (.registerWrite q' o n v) s

/-- The four registers of a window record (R33, Table 9-3): a write sets what its register carries and leaves the rest.
What a window record's registers read back after a write of them (R33). -/
def Obligations.WindowRegistersWriteAndReadBack : Prop :=
  (∀ (s : State) (q w : Fin 8) (v : Word), s.resetN = true →
      exec (.registerWrite q (BitVec.ofNat 12 (0x080 + 16 * w.val)) 4 v) s = .next
        { s with
          win := s.win.set w { s.win[w] with
            mode :=
              if v.extractLsb' 0 2 = 0 then .off
              else if v.extractLsb' 0 2 = 1 then .posted
              else if v.extractLsb' 0 2 = 2 then .strict
              else .readonly
            segment := v.extractLsb' 4 2
            sizeCode := Fin.ofNat 17 (min 16 (v.extractLsb' 8 5).toNat) }
          answer := some (.done []) } ∧
      exec (.registerWrite q (BitVec.ofNat 12 (0x084 + 16 * w.val)) 4 v) s = .next
        { s with
          win := s.win.set w { s.win[w] with base := v.extractLsb' 0 28 }
          answer := some (.done []) } ∧
      exec (.registerWrite q (BitVec.ofNat 12 (0x088 + 16 * w.val)) 4 v) s = .next
        { s with
          win := s.win.set w { s.win[w] with remoteBase := s.win[w].remoteBase.extractLsb' 32 8 ++ v }
          answer := some (.done []) } ∧
      exec (.registerWrite q (BitVec.ofNat 12 (0x08C + 16 * w.val)) 4 v) s = .next
        { s with
          win := s.win.set w { s.win[w] with
            remoteBase := v.extractLsb' 0 8 ++ s.win[w].remoteBase.extractLsb' 0 32 }
          answer := some (.done []) }) ∧
  ∀ (s : State) (w : Fin 8) (v : Word),
    (s.writeRegister (.windowBase w) v).readRegister (.windowBase w) = v &&& 0x0FFFFFFF ∧
    (s.writeRegister (.remoteBaseLow w) v).readRegister (.remoteBaseLow w) = v ∧
    (s.writeRegister (.remoteBaseHigh w) v).readRegister (.remoteBaseHigh w) = v &&& 0xFF ∧
    (s.writeRegister (.remoteBaseHigh w) v).readRegister (.remoteBaseLow w) = s.readRegister (.remoteBaseLow w) ∧
    (s.writeRegister (.windowControl w) v).readRegister (.windowControl w) =
      (v &&& 0x33) ||| (BitVec.ofNat 32 (min 16 (v.extractLsb' 8 5).toNat) <<< 8)

/-- The control registers of REG, HRT, ISU, LTC, LTX and LRX, with the values stored for values out of range (R28, R71,
R127, R130, R155, R177, R178, Table 9-3). -/
def Obligations.ControlRegisterWrites : Prop :=
  ∀ (s : State) (q : Fin 8) (v : Word), s.resetN = true →
    exec (.registerWrite q 0x004 4 v) s = .next
      { s with
        reg := { s.reg with
          policy := if v.getLsbD 0 then .alternate else .writesFirst, intakeHold := v.getLsbD 1 }
        answer := some (.done []) } ∧
    exec (.registerWrite q 0x008 4 v) s = .next
      { s with
        reg := { s.reg with tbdiv := if v.extractLsb' 0 8 = 0 then 1 else v.extractLsb' 0 8 }
        answer := some (.done []) } ∧
    exec (.registerWrite q 0x120 4 v) s = .next
      { s with
        hrt := { s.hrt with discardInterval := if v.extractLsb' 0 8 = 0 then 1 else v.extractLsb' 0 8 }
        answer := some (.done []) } ∧
    exec (.registerWrite q 0x124 4 v) s = .next
      { s with hrt := { s.hrt with lapseThreshold := v.extractLsb' 0 4 }, answer := some (.done []) } ∧
    exec (.registerWrite q 0x128 4 v) s = .next
      { s with
        isu := { s.isu with completionTimeout := if v.extractLsb' 0 8 = 0 then 1 else v.extractLsb' 0 8 }
        answer := some (.done []) } ∧
    exec (.registerWrite q 0x048 4 v) s = .next
      { s with
        ltc := { s.ltc with
          staged :=
            if (v.extractLsb' 0 3).toNat ≤ 1 then .g1
            else if (v.extractLsb' 0 3).toNat = 2 then .g2
            else if (v.extractLsb' 0 3).toNat = 3 then .g3
            else .g4 }
        answer := some (.done []) } ∧
    exec (.registerWrite q 0x04C 4 v) s = .next
      { s with
        ltc := { s.ltc with
          seekWindow := if v.extractLsb' 0 8 = 0 then 1 else v.extractLsb' 0 8
          attemptLimit := v.extractLsb' 8 4
          lockBypass := v.getLsbD 12
          alignCount := if v.extractLsb' 16 8 = 0 then 1 else v.extractLsb' 16 8 }
        answer := some (.done []) } ∧
    exec (.registerWrite q 0x054 4 v) s = .next
      { s with
        ltx := { s.ltx with
          replayInterval := if v.extractLsb' 0 8 = 0 then 1 else v.extractLsb' 0 8
          shortLimit := BitVec.ofNat 3 (max 1 (min 4 (v.extractLsb' 8 3).toNat))
          longLimit := v.extractLsb' 12 3 }
        answer := some (.done []) } ∧
    exec (.registerWrite q 0x060 4 v) s = .next
      { s with
        lrx := { s.lrx with
          ackCount := BitVec.ofNat 5 (max 1 (min 16 (v.extractLsb' 0 5).toNat))
          ackDelay := if v.extractLsb' 8 6 = 0 then 1 else v.extractLsb' 8 6
          lineLossThreshold := if v.extractLsb' 16 4 = 0 then 1 else v.extractLsb' 16 4 }
        answer := some (.done []) }

/-- A write of an enable or a route register of either group of causes stores it, and the two lines follow in the same
event (R162, R164). -/
def Obligations.InterruptControlWrites : Prop :=
  ∀ (s : State) (q : Fin 8) (v : Word) (o : BitVec 12) (e : Evu), s.resetN = true →
    ((o = 0x204 ∧ e = { s.evu with remoteEnable := v.extractLsb' 0 16 }) ∨
      (o = 0x208 ∧ e = { s.evu with remoteRoute := v.extractLsb' 0 16 }) ∨
      (o = 0x210 ∧ e = { s.evu with localEnable := v.extractLsb' 0 8 }) ∨
      (o = 0x214 ∧ e = { s.evu with localRoute := v.extractLsb' 0 8 })) →
    exec (.registerWrite q o 4 v) s = .next
      { s with evu := { e with intA := e.onLineA, intB := e.onLineB }, answer := some (.done []) }

/-- A taken write of a read-only register, or of an offset with no register assigned, is answered DONE and changes nothing
(R174). -/
def Obligations.ReadOnlyAndUnassignedWritesIgnored : Prop :=
  ∀ (s : State) (q : Fin 8) (v : Word) (o : BitVec 12), s.resetN = true → o.toNat % 4 = 0 →
    (registerAt o.toNat = none ∨ (∃ e : Fin 16, o.toNat = 0x140 + 4 * e.val) ∨
      o ∈ [(0x000 : BitVec 12), 0x010, 0x044, 0x058, 0x064, 0x068, 0x06C, 0x12C, 0x180, 0x184, 0x188, 0x18C, 0x218,
        0x220, 0x224, 0x280, 0x284, 0x288, 0x28C, 0x290, 0x294, 0x298]) →
    exec (.registerWrite q o 4 v) s = .next { s with answer := some (.done []) }

/-- A taken write of a register that has a row of its own acts as that row, and one that carries no indication changes
nothing but what its RW fields carry (R25, R115, R148, R157, R161, R167, R174, R179). That the generic row and the own row
are the same event is the model's reading (log entry 13). -/
def Obligations.RegisterWriteActsAsItsCommandRow : Prop :=
  ∀ (s : State) (q : Fin 8) (v : Word),
    (v.getLsbD 0 = true → exec (.registerWrite q 0x00C 4 v) s = exec .functionReset s) ∧
    (v.extractLsb' 0 4 = 1 → exec (.registerWrite q 0x040 4 v) s = exec .enable s) ∧
    (v.extractLsb' 0 4 = 2 → exec (.registerWrite q 0x040 4 v) s = exec .retrain s) ∧
    (v.extractLsb' 0 4 = 3 → exec (.registerWrite q 0x040 4 v) s = exec .restart s) ∧
    (v.extractLsb' 0 4 = 4 → exec (.registerWrite q 0x040 4 v) s = exec .disable s) ∧
    (5 ≤ (v.extractLsb' 0 4).toNat →
      exec (.registerWrite q 0x040 4 v) s = exec (.unassignedLinkCommand (v.extractLsb' 0 4)) s) ∧
    (v.getLsbD 16 = true → exec (.registerWrite q 0x05C 4 v) s = exec .clearWrapFlag s) ∧
    exec (.registerWrite q 0x200 4 v) s = exec (.clearRemoteSource (v.extractLsb' 0 16)) s ∧
    exec (.registerWrite q 0x20C 4 v) s = exec (.clearLocalCause (v.extractLsb' 0 8)) s ∧
    (v.getLsbD 0 = true → exec (.registerWrite q 0x2A4 4 v) s = exec .faultRecordClear s) ∧
    (∀ r : Fin 8, v.getLsbD 8 = true →
      exec (.registerWrite q (BitVec.ofNat 12 (0x100 + 4 * r.val)) 4 v) s =
        exec (.clearLapse r (if v.getLsbD 0 then .b else .a) (v.extractLsb' 4 3)) s) ∧
    (s.resetN = true →
      (v.getLsbD 0 = false → exec (.registerWrite q 0x00C 4 v) s = .next { s with answer := some (.done []) }) ∧
      (v.extractLsb' 0 4 = 0 → exec (.registerWrite q 0x040 4 v) s = .next { s with answer := some (.done []) }) ∧
      (v.getLsbD 16 = false → exec (.registerWrite q 0x05C 4 v) s = .next { s with answer := some (.done []) }) ∧
      (v.getLsbD 0 = false → exec (.registerWrite q 0x2A4 4 v) s = .next { s with answer := some (.done []) }) ∧
      ∀ r : Fin 8, v.getLsbD 8 = false →
        exec (.registerWrite q (BitVec.ofNat 12 (0x100 + 4 * r.val)) 4 v) s = .next
          { s with
            hrt := { s.hrt with
              requesters := s.hrt.requesters.set r { s.hrt.requesters[r] with
                level := if v.getLsbD 0 then .b else .a
                heldLimit := BitVec.ofNat 3 (max 1 (min 4 (v.extractLsb' 4 3).toNat)) } }
            answer := some (.done []) })

/-! ### Register commands with a row of their own -/

/-- ENABLE in OFF and RESTART in FAILED make a fresh start, and RETRAIN in ACTIVE makes a retrain with reason SOFTWARE
(R116, R126, R132, R133, R134, R149, R150). -/
def Obligations.AcceptedTrainingCommands : Prop :=
  ∀ s : State, s.resetN = true →
    (∀ (c : Instr) (code : BitVec 4),
      (c = .enable ∧ code = 1 ∧ s.ltc.link = .off) ∨ (c = .restart ∧ code = 3 ∧ s.ltc.link = .failed) →
      exec c s = .next
        { s with
          ltc := { s.ltc with
            link := .seek
            ourSession := if s.ltc.ourSession = 15 then 1 else s.ltc.ourSession + 1
            partnerSession := 0
            current := s.ltc.staged
            trial := s.ltc.trial || decide (s.ltc.staged ≠ s.ltc.current)
            attempts := 0
            skRun := 0
            alRun := none
            alignTimer := none
            seekTimer := some (s.ltc.seekWindow.toNat * 100)
            command := some { code := code, accepted := true } }
          answer := some (.done []) }) ∧
    (s.ltc.link = .active →
      exec .retrain s = .next
        { s with
          ltc := { s.ltc with
            link := .seek
            lastReason := .software
            current := s.ltc.staged
            trial := s.ltc.trial || decide (s.ltc.staged ≠ s.ltc.current)
            attempts := 0
            skRun := 0
            alRun := none
            alignTimer := none
            seekTimer := some (s.ltc.seekWindow.toNat * 100)
            command := some { code := 2, accepted := true } }
          ltx := { s.ltx with pass := none, replayTimer := none, akDue := false, nkDue := none }
          lrx := { s.lrx with ackDelayTimer := none }
          answer := some (.done []) })

/-- A command given in a state that does not accept it, and a code that names no command, change nothing but the command
status (R148, Table 7-8). -/
def Obligations.RefusedLinkCommands : Prop :=
  ∀ (s : State) (c : Instr) (code : BitVec 4), s.resetN = true →
    ((c = .enable ∧ code = 1 ∧ s.ltc.link ≠ .off) ∨ (c = .retrain ∧ code = 2 ∧ s.ltc.link ≠ .active) ∨
      (c = .restart ∧ code = 3 ∧ s.ltc.link ≠ .failed) ∨ (c = .disable ∧ code = 4 ∧ s.ltc.link = .off) ∨
      (c = .unassignedLinkCommand code ∧ 5 ≤ code.toNat)) →
    exec c s = .next
      { s with
        ltc := { s.ltc with command := some { code := code, accepted := false } }
        answer := some (.done []) }

/-- Teardown, block by block (R29, R58, R86, R118, R126, R153). DISABLE in any state but OFF performs teardown, goes to
OFF, stops the seek window timer and raises LINK; the grades, the trial flag, our session number and the failure cause
are kept, and the transmit pair carries idle fill (R99, R151). That the frame begun before has ended by then is the
model's choice (log entry 14). -/
def Obligations.TeardownAndDisableEndTheSession : Prop :=
  (∀ s : State,
      s.teardown =
        { s with
          hrt := { s.hrt with
            entries := Vector.ofFn fun e : Fin 16 => s.hrt.entries[e].map fun h =>
              match h.phase with
              | .queued _ => { h with phase := .failed .linkLost (s.hrt.discardInterval.toNat * 64) }
              | .issued _ _ => { h with phase := .failed .linkLost (s.hrt.discardInterval.toNat * 64) }
              | .ready _ _ => h
              | .failed _ _ => h }
          pwq := { s.pwq with queue := [], lostWrites := min 65535 (s.pwq.lostWrites + s.pwq.queue.length) }
          isu := { s.isu with
            tags := Vector.replicate 32 .free, allowance := 0, writeOffer := 0, sent := 0, returned := 0 }
          ltx := { s.ltx with
            buffer := [], pass := none, shortRetry := 0, longRetry := 0, replayTimer := none, akDue := false
            nkDue := none }
          lrx := { s.lrx with
            expected := 0, nakOpen := false, coalescing := 0, ackDelayTimer := none, lineLossRun := 0 }
          ltc := { s.ltc with
            partnerSession := 0, requestOffer := 0, writeOffer := 0, attempts := 0, skRun := 0, alRun := none
            alignTimer := none }
          evu :=
            if s.pwq.queue = [] then s.evu
            else
              (s.evu.raise .writesLost).report
                { kind := .writesLost, detail := some (BitVec.ofNat 16 s.pwq.queue.length) } }) ∧
  ∀ s : State, s.resetN = true → s.ltc.link ≠ .off →
    exec .disable s = .next
      { s.teardown with
        ltc := { s.teardown.ltc with
          link := .off, seekTimer := none, command := some { code := 4, accepted := true } }
        evu := s.teardown.evu.raise .link
        tx := .idleFill
        answer := some (.done []) }

/-- CLEAR_LAPSE sets level and limit, zeroes the discard run and ends the lapse; CLEAR_WRAP_FLAG clears the flag (R25,
R27, R115). The W1C clears of remote sources and local causes, with the lines that follow (R157, R161, R164). -/
def Obligations.ClearCommandsClearTheirFlags : Prop :=
  (∀ s : State, s.resetN = true →
      (∀ (r : Fin 8) (level : Level) (limit : BitVec 3),
        exec (.clearLapse r level limit) s = .next
          { s with
            hrt := { s.hrt with
              requesters := s.hrt.requesters.set r { s.hrt.requesters[r] with
                level := level
                heldLimit := BitVec.ofNat 3 (max 1 (min 4 limit.toNat))
                discardRun := 0
                lapsed := false } }
            answer := some (.done []) }) ∧
      exec .clearWrapFlag s = .next { s with ltx := { s.ltx with wrapFlag := false }, answer := some (.done []) }) ∧
  ∀ s : State, s.resetN = true →
    (∀ marks : BitVec 16, ∃ t, exec (.clearRemoteSource marks) s = .next t ∧
      (∀ n : Fin 16, t.evu.remotePending.getLsbD n = (s.evu.remotePending.getLsbD n && !marks.getLsbD n) ∧
        t.evu.remoteRepeat[n] = if marks.getLsbD n then 0 else s.evu.remoteRepeat[n]) ∧
      t.evu.intA = t.evu.onLineA ∧ t.evu.intB = t.evu.onLineB ∧
      t =
        { s with
          evu := { s.evu with
            remotePending := t.evu.remotePending, remoteRepeat := t.evu.remoteRepeat
            intA := t.evu.intA, intB := t.evu.intB }
          answer := some (.done []) }) ∧
    ∀ marks : BitVec 8, ∃ t, exec (.clearLocalCause marks) s = .next t ∧
      (∀ k : Fin 8, t.evu.localPending.getLsbD k = (s.evu.localPending.getLsbD k && !marks.getLsbD k)) ∧
      t.evu.intA = t.evu.onLineA ∧ t.evu.intB = t.evu.onLineB ∧
      t =
        { s with
          evu := { s.evu with
            localPending := t.evu.localPending, intA := t.evu.intA, intB := t.evu.intB }
          answer := some (.done []) }

/-- Software empties the fault record by writing 1 to the fault record clear register: the record and its later count go,
and the FAULT cause is not changed; a written 0 changes nothing (R167). -/
def Obligations.FaultRecordCleared : Prop :=
  ∀ (s : State) (q : Fin 8) (v : Word), s.resetN = true →
    exec .faultRecordClear s = .next
      { s with evu := { s.evu with fault := none, laterCount := 0 }, answer := some (.done []) } ∧
    (v.getLsbD 0 = true → exec (.registerWrite q 0x2A4 4 v) s = exec .faultRecordClear s) ∧
    (v.getLsbD 0 = false → exec (.registerWrite q 0x2A4 4 v) s = .next { s with answer := some (.done []) })

/-- A report fills an empty record and raises FAULT, and counts at a filled one; a raise sets the cause's flag and the
lines follow (R160, R164, R166). -/
def Obligations.ReportsAndRaisesReachTheEventUnit : Prop :=
  ∀ e : Evu,
    (∀ r : FaultRecord, e.fault = none → e.report r = { e with fault := some r }.raise .fault) ∧
    (∀ r q : FaultRecord, e.fault = some q → e.report r = { e with laterCount := min 255 (e.laterCount + 1) }) ∧
    ∀ c : LocalCause,
      e.raise c = { e with
        localPending := (e.raise c).localPending, intA := (e.raise c).onLineA, intB := (e.raise c).onLineB } ∧
      ∀ k : Fin 8, (e.raise c).localPending.getLsbD k =
        (e.localPending.getLsbD k || decide (k.val + 1 = causeRank c))

/-- The identification register presents the highest-ranked cause that is pending and enabled, local causes of rank 1 to 8
before remote sources 0 to 15, and 0 when there is none (R163); quiet status presents its four indications (R181). -/
def Obligations.IdentificationAndQuietStatus : Prop :=
  ∀ s : State,
    (∀ k : Fin 8, (s.evu.localPending.getLsbD k && s.evu.localEnable.getLsbD k) = true →
      (∀ j : Fin 8, j < k → (s.evu.localPending.getLsbD j && s.evu.localEnable.getLsbD j) = false) →
      s.readRegister .identification = BitVec.ofNat 32 (k.val + 1)) ∧
    ((∀ j : Fin 8, (s.evu.localPending.getLsbD j && s.evu.localEnable.getLsbD j) = false) →
      (∀ n : Fin 16, (s.evu.remotePending.getLsbD n && s.evu.remoteEnable.getLsbD n) = true →
        (∀ m : Fin 16, m < n → (s.evu.remotePending.getLsbD m && s.evu.remoteEnable.getLsbD m) = false) →
        s.readRegister .identification = BitVec.ofNat 32 (16 + n.val)) ∧
      ((∀ m : Fin 16, (s.evu.remotePending.getLsbD m && s.evu.remoteEnable.getLsbD m) = false) →
        s.readRegister .identification = 0)) ∧
    ((s.readRegister .quietStatus).getLsbD 1 = true ↔ s.pwq.queue = []) ∧
    ((s.readRegister .quietStatus).getLsbD 2 = true ↔ s.ltx.buffer = []) ∧
    ((s.readRegister .quietStatus).getLsbD 3 = true ↔
      ∀ e : Fin 16, ∀ h ∈ s.hrt.entries[e],
        (∀ n, h.phase ≠ .queued n) ∧ ∀ tag n, h.phase ≠ .issued tag n) ∧
    ((s.readRegister .quietStatus).getLsbD 0 = true ↔
      (s.readRegister .quietStatus).getLsbD 1 = true ∧ (s.readRegister .quietStatus).getLsbD 2 = true ∧
        (s.readRegister .quietStatus).getLsbD 3 = true) ∧
    (s.readRegister .quietStatus).toNat < 16

/-! ### Windows -/

/-- The effective base and the effective remote base are the written values rounded down to the window's size, and no
window passes the end of the aperture or of the remote address space (R34). A decode hits the lowest-numbered window
that matches, and misses when none does; it hands back the window, its mode, its segment and the translated address
(R36, R37). -/
def Obligations.WindowsDecodeByEffectiveBases : Prop :=
  (∀ w : Window,
      w.size = 4096 * 2 ^ w.sizeCode.val ∧
      w.effectiveBase.toNat = w.base.toNat / w.size * w.size ∧
      w.effectiveRemote.toNat = w.remoteBase.toNat / w.size * w.size ∧
      w.effectiveBase.toNat + w.size ≤ 2 ^ 28 ∧
      w.effectiveRemote.toNat + w.size ≤ 2 ^ 40 ∧
      w.effectiveRemote.extractLsb' 32 8 = w.remoteBase.extractLsb' 32 8) ∧
  ∀ (win : Vector Window 8) (o : BitVec 28) (found : Fin 8 → Bool),
    (∀ w : Fin 8, found w = true ↔
      win[w].mode ≠ .off ∧ win[w].effectiveBase.toNat ≤ o.toNat ∧
        o.toNat < win[w].effectiveBase.toNat + win[w].size) →
    (decodeOffset win o = none ↔ ∀ w : Fin 8, found w = false) ∧
    ∀ w : Fin 8, found w = true → (∀ u : Fin 8, u < w → found u = false) →
      ∃ hit, decodeOffset win o = some hit ∧ hit.window = w ∧ hit.mode = win[w].mode ∧
        hit.segment = win[w].segment ∧
        hit.remote.toNat = win[w].effectiveRemote.toNat + (o.toNat - win[w].effectiveBase.toNat)

/-! ### Intake of aperture transfers -/

/-- A transfer of bad size or alignment is answered FAULT and reported with BAD_SIZE, in every state of the part (R5).
The detail is the size in 16 bits; that no host transfer has 65536 bytes or more is its reading (log entry 16). -/
def Obligations.BadSizeAnsweredFault : Prop :=
  ∀ (s : State) (r : Fin 8) (d : Direction) (o : BitVec 28) (n : Nat) (data : List Byte), s.resetN = true →
    (n ∉ [1, 2, 4, 8, 16, 32, 64] ∨ o.toNat % n ≠ 0) →
    exec (.apertureTransfer r d o n data) s = .next
      { s with
        evu := s.evu.report
          { kind := .badSize, requester := some r, offset := some o, detail := some (BitVec.ofNat 16 n) }
        answer := some .fault }

/-- A return to a QUEUED or ISSUED entry is answered COMEBACK and changes nothing (R7); a write that returns with other
data is answered FAULT and reported with RETURN_MISMATCH, and the entry is untouched (R10). -/
def Obligations.ReturnsThatLeaveTheEntry : Prop :=
  ∀ (s : State) (r : Fin 8) (d : Direction) (o : BitVec 28) (n : Nat) (data : List Byte) (e : Fin 16) (h : Held),
    s.resetN = true → sizeRule o n = true → s.hrt.keysDistinct → s.hrt.entries[e] = some h →
    h.key = { requester := r, direction := d, offset := o, size := n } →
    ((∃ k, h.phase = .queued k) ∨ (∃ tag k, h.phase = .issued tag k) →
      h.kind = .read ∨ h.kind = .hwrite data →
      exec (.apertureTransfer r d o n data) s = .next { s with answer := some .comeback }) ∧
    (∀ held : List Byte, h.kind = .hwrite held → held ≠ data →
      exec (.apertureTransfer r d o n data) s = .next
        { s with
          evu := s.evu.report
            { kind := .returnMismatch, requester := some r, offset := some o, window := some h.window
              entry := some e }
          answer := some .fault })

/-- A return to a READY entry is answered DONE with the read data of a READ, and one to a FAILED entry is answered FAULT;
either frees the entry, moves the requester's younger entries up, lowers its held count and zeroes its discard run (R3, R8,
R9). That a held count of 0, which no run reaches, stays 0 is the model's choice (log entry 15). -/
def Obligations.ReturnCollectsOutcome : Prop :=
  ∀ (s : State) (r : Fin 8) (d : Direction) (o : BitVec 28) (n : Nat) (data : List Byte) (e : Fin 16) (h : Held)
    (a : Answer),
    s.resetN = true → sizeRule o n = true → s.hrt.keysDistinct → s.hrt.entries[e] = some h →
    h.key = { requester := r, direction := d, offset := o, size := n } →
    h.kind = .read ∨ h.kind = .hwrite data →
    ((∃ read k, h.phase = .ready (some read) k ∧ a = .done read) ∨ (∃ k, h.phase = .ready none k ∧ a = .done []) ∨
      (∃ f k, h.phase = .failed f k ∧ a = .fault)) →
    exec (.apertureTransfer r d o n data) s = .next
      { s with
        hrt := { s.hrt with
          entries := Vector.ofFn fun i : Fin 16 =>
            if i = e then none
            else s.hrt.entries[i].map fun g =>
              if g.requester = r ∧ h.order < g.order then { g with order := g.order - 1 } else g
          requesters := s.hrt.requesters.set r { s.hrt.requesters[r] with
            heldCount := s.hrt.requesters[r].heldCount - 1, discardRun := 0 } }
        answer := some a }

/-- While intake hold is set a transfer that is no return is answered COMEBACK and leaves no trace (R11); so does a held
request when the table is full or its requester is at its held limit (R15). -/
def Obligations.TransfersAnsweredComebackWithoutTrace : Prop :=
  ∀ (s : State) (r : Fin 8) (d : Direction) (o : BitVec 28) (n : Nat) (data : List Byte),
    s.resetN = true → sizeRule o n = true →
    (∀ e : Fin 16, ∀ h ∈ s.hrt.entries[e], h.key ≠ { requester := r, direction := d, offset := o, size := n }) →
    (s.reg.intakeHold = true ∨
      (∃ hit, decodeOffset s.win o = some hit ∧ (d = .read ∨ hit.mode = .strict)) ∧
        s.ltc.link ≠ .off ∧ s.ltc.link ≠ .failed ∧ s.hrt.requesters[r].lapsed = false ∧
        ((∀ e : Fin 16, s.hrt.entries[e] ≠ none) ∨
          s.hrt.requesters[r].heldLimit.toNat ≤ s.hrt.requesters[r].heldCount)) →
    exec (.apertureTransfer r d o n data) s = .next { s with answer := some .comeback }

/-- The faults that intake gives after matching: WINDOW_MISS and READ_ONLY_WRITE at the decode, LINK_DOWN_REQUEST at step 5
and LAPSED_REQUEST at step 6 (R12, R13, R14, R17). -/
def Obligations.IntakeFaultsAfterMatching : Prop :=
  ∀ (s : State) (r : Fin 8) (d : Direction) (o : BitVec 28) (n : Nat) (data : List Byte),
    s.resetN = true → sizeRule o n = true →
    (∀ e : Fin 16, ∀ h ∈ s.hrt.entries[e], h.key ≠ { requester := r, direction := d, offset := o, size := n }) →
    s.reg.intakeHold = false →
    (decodeOffset s.win o = none →
      exec (.apertureTransfer r d o n data) s = .next
        { s with
          evu := s.evu.report { kind := .windowMiss, requester := some r, offset := some o }
          answer := some .fault }) ∧
    ∀ hit, decodeOffset s.win o = some hit →
      (d = .write → hit.mode = .readonly →
        exec (.apertureTransfer r d o n data) s = .next
          { s with
            evu := s.evu.report
              { kind := .readOnlyWrite, requester := some r, offset := some o, window := some hit.window }
            answer := some .fault }) ∧
      (d = .read ∨ hit.mode = .strict →
        (s.ltc.link = .off ∨ s.ltc.link = .failed →
          exec (.apertureTransfer r d o n data) s = .next
            { s with
              evu := s.evu.report
                { kind := .linkDownRequest, requester := some r, offset := some o, window := some hit.window }
              answer := some .fault }) ∧
        (s.ltc.link ≠ .off → s.ltc.link ≠ .failed → s.hrt.requesters[r].lapsed = true →
          exec (.apertureTransfer r d o n data) s = .next
            { s with
              evu := s.evu.report
                { kind := .lapsedRequest, requester := some r, offset := some o, window := some hit.window
                  detail := some (BitVec.ofNat 16 s.hrt.requesters[r].discardRun) }
              answer := some .fault }))

/-- Creation takes the lowest-numbered FREE entry, which becomes QUEUED behind the writes of the queue and last in its
requester's order; the transfer is answered COMEBACK (R16). -/
def Obligations.CreationTakesLowestFreeEntry : Prop :=
  ∀ (s : State) (r : Fin 8) (d : Direction) (o : BitVec 28) (n : Nat) (data : List Byte) (hit : Hit) (e : Fin 16),
    s.resetN = true → sizeRule o n = true →
    (∀ f : Fin 16, ∀ h ∈ s.hrt.entries[f], h.key ≠ { requester := r, direction := d, offset := o, size := n }) →
    s.reg.intakeHold = false → decodeOffset s.win o = some hit → d = .read ∨ hit.mode = .strict →
    s.ltc.link ≠ .off → s.ltc.link ≠ .failed → s.hrt.requesters[r].lapsed = false →
    s.hrt.requesters[r].heldCount < s.hrt.requesters[r].heldLimit.toNat →
    s.hrt.entries[e] = none → (∀ f : Fin 16, f < e → s.hrt.entries[f] ≠ none) →
    exec (.apertureTransfer r d o n data) s = .next
      { s with
        hrt := { s.hrt with
          entries := s.hrt.entries.set e (some
            { kind :=
                match d with
                | .read => .read
                | .write => .hwrite data
              requester := r
              offset := o
              size := n
              window := hit.window
              remote := hit.remote
              segment := hit.segment
              order := s.hrt.requesters[r].heldCount + 1
              phase := .queued s.pwq.queue.length })
          requesters := s.hrt.requesters.set r { s.hrt.requesters[r] with
            heldCount := s.hrt.requesters[r].heldCount + 1 } }
        answer := some .comeback }

/-- How the posted write queue answers a write: FAULT with LINK_DOWN_REQUEST in OFF and FAILED, otherwise COMEBACK when it
holds sixteen writes, otherwise DONE with the write at the young end; no held entry is changed (R46). -/
def Obligations.PostedWriteAnswers : Prop :=
  ∀ (s : State) (r : Fin 8) (o : BitVec 28) (n : Nat) (data : List Byte) (hit : Hit),
    s.resetN = true → sizeRule o n = true →
    (∀ f : Fin 16, ∀ h ∈ s.hrt.entries[f], h.key ≠ { requester := r, direction := .write, offset := o, size := n }) →
    s.reg.intakeHold = false → decodeOffset s.win o = some hit → hit.mode = .posted →
    (s.ltc.link = .off ∨ s.ltc.link = .failed →
      exec (.apertureTransfer r .write o n data) s = .next
        { s with
          evu := s.evu.report
            { kind := .linkDownRequest, requester := some r, offset := some o, window := some hit.window }
          answer := some .fault }) ∧
    (s.ltc.link ≠ .off → s.ltc.link ≠ .failed → 16 ≤ s.pwq.queue.length →
      exec (.apertureTransfer r .write o n data) s = .next { s with answer := some .comeback }) ∧
    (s.ltc.link ≠ .off → s.ltc.link ≠ .failed → s.pwq.queue.length < 16 →
      exec (.apertureTransfer r .write o n data) s = .next
        { s with
          pwq := { s.pwq with
            queue := s.pwq.queue ++
              [{ remote := hit.remote, segment := hit.segment, size := n, data := data }] }
          answer := some (.done []) })

/-! ### Received sequenced frames -/

/-- The delivery of the expected frame, as the receiver and the transmitter see it: the expected number rises, a NAK
episode closes, the coalescing count rises to at most 16 and starts the ack delay timer from 0, an AK becomes due at the
ack count, and a good frame ends the line-loss run (R121, R124, R125). An accepted CP or EV in ACTIVE that is not the
expected one: a duplicate, 1 to 64 before it, makes an AK due and nothing else; a frame 1 to 63 ahead of it is a bad
frame, which makes a NK due with the last good number and opens a NAK episode unless one is open. Either ends the
line-loss run (R120, R122, R123, R125). -/
def Obligations.SequenceCheckOfNumberedFrames : Prop :=
  (∀ s : State,
      s.goodFrame.delivered =
        { s with
          lrx := { s.lrx with
            lineLossRun := 0
            expected := s.lrx.expected + 1
            nakOpen := false
            coalescing := min 16 (s.lrx.coalescing + 1)
            ackDelayTimer := if s.lrx.coalescing = 0 then some s.lrx.ackDelay.toNat else s.lrx.ackDelayTimer }
          ltx := { s.ltx with
            akDue := s.ltx.akDue || decide (s.lrx.ackCount.toNat ≤ min 16 (s.lrx.coalescing + 1)) } }) ∧
  ∀ (s : State) (number : BitVec 7) (c : Instr), s.resetN = true → s.ltc.link = .active →
    ((∃ tag st data, c = .cpReceived number tag st data) ∨ (∃ kind body, c = .evReceived number kind body)) →
    ((∃ k : Nat, 1 ≤ k ∧ k ≤ 64 ∧ number = s.lrx.expected - BitVec.ofNat 7 k) →
      exec c s = .next
        { s with ltx := { s.ltx with akDue := true }, lrx := { s.lrx with lineLossRun := 0 } }) ∧
    ((∃ k : Nat, 1 ≤ k ∧ k ≤ 63 ∧ number = s.lrx.expected + BitVec.ofNat 7 k) →
      (s.lrx.nakOpen = false →
        exec c s = .next
          { s with
            ltx := { s.ltx with nkDue := some (s.lrx.expected - 1) }
            lrx := { s.lrx with nakOpen := true, lineLossRun := 0 } }) ∧
      (s.lrx.nakOpen = true → exec c s = .next { s with lrx := { s.lrx with lineLossRun := 0 } }))

/-- An expected CP for a HELD tag is delivered to the entry that holds the tag and frees the tag: of the expected length and
OK it makes the entry READY, of the expected length and another status FAILED with that cause, and of any other length
FAILED with BAD_COMPLETION; a failure is reported, and the discard timer starts (R20, R22, R68). -/
def Obligations.CompletionReachesItsEntry : Prop :=
  ∀ (s : State) (tag : Fin 32) (st : CpStatus) (data : List Byte) (e : Fin 16) (h : Held) (timer : Nat),
    s.resetN = true → s.ltc.link = .active → tag.val < s.isu.allowance → s.isu.tags[tag] = .held →
    s.hrt.entries[e] = some h → h.phase = .issued tag timer →
    (∀ f : Fin 16, ∀ g ∈ s.hrt.entries[f], g.holdsTag tag = true → f = e) →
    ∃ p : Phase,
      ((st = .ok ∧ h.kind = .read ∧ data.length = h.size ∧ p = .ready (some data) (s.hrt.discardInterval.toNat * 64)) ∨
        (st = .ok ∧ h.kind ≠ .read ∧ data = [] ∧ p = .ready none (s.hrt.discardInterval.toNat * 64)) ∨
        (st = .remoteFault ∧ data = [] ∧ p = .failed .remoteFault (s.hrt.discardInterval.toNat * 64)) ∨
        (st = .unsupported ∧ data = [] ∧ p = .failed .unsupported (s.hrt.discardInterval.toNat * 64)) ∨
        (data.length ≠ (if st = .ok ∧ h.kind = .read then h.size else 0) ∧
          p = .failed .badCompletion (s.hrt.discardInterval.toNat * 64))) ∧
      exec (.cpReceived s.lrx.expected tag st data) s = .next
        { s.goodFrame.delivered with
          isu := { s.isu with tags := s.isu.tags.set tag .free }
          hrt := { s.hrt with entries := s.hrt.entries.set e (some { h with phase := p }) }
          evu :=
            match p with
            | .failed .remoteFault _ => s.evu.report (heldReport .remoteFault e h tag none)
            | .failed .unsupported _ => s.evu.report (heldReport .unsupported e h tag none)
            | .failed .badCompletion _ =>
              s.evu.report (heldReport .badCompletion e h tag (some (BitVec.ofNat 16 data.length)))
            | _ => s.evu }

/-- An expected CP for a QUARANTINED tag is a late completion: the tag becomes FREE and LATE is raised (R69). One for a FREE
tag, or for any tag at or above Q, is reported with BAD_TAG and changes no tag and no entry (R70). -/
def Obligations.LateAndBadTagCompletions : Prop :=
  ∀ (s : State) (tag : Fin 32) (st : CpStatus) (data : List Byte), s.resetN = true → s.ltc.link = .active →
    (tag.val < s.isu.allowance → s.isu.tags[tag] = .quarantined →
      exec (.cpReceived s.lrx.expected tag st data) s = .next
        { s.goodFrame.delivered with
          isu := { s.isu with tags := s.isu.tags.set tag .free }
          evu := s.evu.raise .late }) ∧
    (s.isu.allowance ≤ tag.val ∨ s.isu.tags[tag] = .free →
      exec (.cpReceived s.lrx.expected tag st data) s = .next
        { s.goodFrame.delivered with
          evu := s.evu.report
            { kind := .badTag, tag := some tag, detail := some (BitVec.ofNat 16 s.isu.allowance) } })

/-- An expected EV: a SIGNAL makes its source pending with count 0, or raises the count of a pending one to at most 15; a
WRITE_FAULT is reported with its address, segment and reason; any other kind is reported with UNKNOWN_EVENT (R156, R158,
R159). -/
def Obligations.EventFramesReachTheEventUnit : Prop :=
  ∀ (s : State) (body : Vector Byte 7), s.resetN = true → s.ltc.link = .active →
    (∀ n : Fin 16, n.val = (body[0].extractLsb' 0 4).toNat →
      (s.evu.remotePending.getLsbD n = false →
        ∃ e : Evu,
          exec (.evReceived s.lrx.expected 0 body) s = .next { s.goodFrame.delivered with evu := e } ∧
          e = { s.evu with
            remotePending := e.remotePending, remoteRepeat := s.evu.remoteRepeat.set n 0
            intA := e.onLineA, intB := e.onLineB } ∧
          ∀ m : Fin 16, e.remotePending.getLsbD m = (s.evu.remotePending.getLsbD m || decide (m = n))) ∧
      (s.evu.remotePending.getLsbD n = true →
        exec (.evReceived s.lrx.expected 0 body) s = .next
          { s.goodFrame.delivered with
            evu := { s.evu with
              remoteRepeat := s.evu.remoteRepeat.set n (min 15 (s.evu.remoteRepeat[n] + 1)) } })) ∧
    exec (.evReceived s.lrx.expected 1 body) s = .next
      { s.goodFrame.delivered with
        evu := s.evu.report
          { kind := .writeFault
            remote := some (body[1] ++ body[2] ++ body[3] ++ body[4] ++ body[5], body[0].extractLsb' 0 2)
            detail := some (body[6].setWidth 16) } } ∧
    ∀ kind : BitVec 4, 2 ≤ kind.toNat →
      exec (.evReceived s.lrx.expected kind body) s = .next
        { s.goodFrame.delivered with
          evu := s.evu.report { kind := .unknownEvent, detail := some (kind.setWidth 16) } }

/-! ### Acknowledgement, replay and credits -/

/-- The three cases of an acknowledged number in ACTIVE: progress frees the frames up to it, zeroes both retry counts,
restarts or stops the replay timer and moves a pass past freed frames; a stale number changes nothing; any other is
reported with ACK_RANGE. An AK, like every accepted frame, ends the line-loss run (R108, R109, R125). That the timer
restarts also at progress during the first pass after a return to ACTIVE is the model's choice (log entry 24). -/
def Obligations.AcknowledgementCases : Prop :=
  ∀ (s : State) (n : BitVec 7), s.resetN = true → s.ltc.link = .active →
    (∀ (old rest : List SentFrame) (f : SentFrame), s.ltx.buffer = old ++ f :: rest → f.number = n →
      (∀ g ∈ old, g.number ≠ n) →
      exec (.akReceived n) s = .next
        { s with
          lrx := { s.lrx with lineLossRun := 0 }
          ltx := { s.ltx with
            buffer := rest
            shortRetry := 0
            longRetry := 0
            replayTimer := if rest = [] then none else some (s.ltx.replayInterval.toNat * 4)
            pass :=
              match s.ltx.pass with
              | none => none
              | some p => if ∃ g ∈ rest, g.number = p then some p else rest.head?.map SentFrame.number } }) ∧
    ((∀ g ∈ s.ltx.buffer, g.number ≠ n) →
      (n = (s.ltx.buffer.head?.map SentFrame.number).getD s.ltx.next - 1 →
        exec (.akReceived n) s = .next { s with lrx := { s.lrx with lineLossRun := 0 } }) ∧
      (n ≠ (s.ltx.buffer.head?.map SentFrame.number).getD s.ltx.next - 1 →
        exec (.akReceived n) s = .next
          { s with
            lrx := { s.lrx with lineLossRun := 0 }
            evu := s.evu.report { kind := .ackRange, detail := some (n.setWidth 16) } }))

/-- A replay that becomes due in ACTIVE: below the short limit it starts a pass at the oldest frame and counts it; at
the short limit and below the long limit it raises LRETRY and retrains with reason REPLAY; at both limits it goes to
FAILED with REPLAY_EXHAUSTED after a teardown, raises LINK, and the transmit pair carries idle fill (R99, R112, R113,
R114, R115, R116, R133, R146). A NK in ACTIVE is first taken as an AK with its number; then, unless that number was out
of range, a replay is due when no pass runs and frames remain (R110). That the request to LTC is taken in the same event
is the model's reading (log entry 19), and that the frame begun before has ended at the entry to FAILED is its choice
(log entry 14). -/
def Obligations.ReplayDueAndNegativeAcknowledge : Prop :=
  (∀ s : State, s.ltc.link = .active →
      (s.ltx.shortRetry < s.ltx.shortLimit.toNat →
        s.replayDue =
          { s with
            ltx := { s.ltx with
              shortRetry := s.ltx.shortRetry + 1
              pass := s.ltx.buffer.head?.map SentFrame.number
              replayCounter := s.ltx.replayCounter + 1
              wrapFlag := s.ltx.wrapFlag || decide (s.ltx.replayCounter = 0xFFFF) } }) ∧
      (s.ltx.shortLimit.toNat ≤ s.ltx.shortRetry → s.ltx.longRetry < s.ltx.longLimit.toNat →
        s.replayDue =
          { s with
            ltx := { s.ltx with
              longRetry := s.ltx.longRetry + 1
              pass := none, replayTimer := none, akDue := false, nkDue := none }
            lrx := { s.lrx with ackDelayTimer := none }
            ltc := { s.ltc with
              link := .seek
              lastReason := .replay
              current := s.ltc.staged
              trial := s.ltc.trial || decide (s.ltc.staged ≠ s.ltc.current)
              attempts := 0
              skRun := 0
              alRun := none
              alignTimer := none
              seekTimer := some (s.ltc.seekWindow.toNat * 100) }
            evu := s.evu.raise .lretry }) ∧
      (s.ltx.shortLimit.toNat ≤ s.ltx.shortRetry → s.ltx.longLimit.toNat ≤ s.ltx.longRetry →
        s.replayDue =
          { s.teardown with
            ltc := { s.teardown.ltc with link := .failed, failure := .replayExhausted, seekTimer := none }
            evu := s.teardown.evu.raise .link
            tx := .idleFill })) ∧
  ∀ (s : State) (n : BitVec 7), s.resetN = true → s.ltc.link = .active →
    ∃ t : State, exec (.akReceived n) s = .next t ∧
      ((∀ g ∈ s.ltx.buffer, g.number ≠ n) ∧
          n ≠ (s.ltx.buffer.head?.map SentFrame.number).getD s.ltx.next - 1 →
        exec (.nkReceived n) s = .next t) ∧
      ((∃ g ∈ s.ltx.buffer, g.number = n) ∨ n = (s.ltx.buffer.head?.map SentFrame.number).getD s.ltx.next - 1 →
        (t.ltx.pass = none → t.ltx.buffer ≠ [] → exec (.nkReceived n) s = .next t.replayDue) ∧
        (t.ltx.pass ≠ none ∨ t.ltx.buffer = [] → exec (.nkReceived n) s = .next t))

/-- A CR in ACTIVE: an advance of at most the credits in use takes the frame's total as returned total; a larger one is
reported with CREDIT_OVERRUN and changes no total (R75, R77). A CR, like every accepted frame, ends the line-loss run
(R125). -/
def Obligations.CreditReturnCases : Prop :=
  ∀ (s : State) (total : BitVec 8), s.resetN = true → s.ltc.link = .active →
    ((total - s.isu.returned).toNat ≤ (s.isu.sent - s.isu.returned).toNat →
      exec (.crReceived total) s = .next
        { s with isu := { s.isu with returned := total }, lrx := { s.lrx with lineLossRun := 0 } }) ∧
    ((s.isu.sent - s.isu.returned).toNat < (total - s.isu.returned).toNat →
      exec (.crReceived total) s = .next
        { s with
          lrx := { s.lrx with lineLossRun := 0 }
          evu := s.evu.report { kind := .creditOverrun, detail := some (total.setWidth 16) } })

/-! ### Received training frames -/

/-- SK and AL in SEEK and ALIGN: three SK of our grade in a row, or an AL after one, move the link to ALIGN; another grade
ends the run; in ALIGN the first AL sets the AL run, the AL one above it gives lock, and another restarts the run (R135,
R138, R139). At lock the run takes the index (log entry 9), and the next AL sent after an entry to ALIGN carries 0 (R96). -/
def Obligations.SeekAndAlignFramesMoveTheLinkOn : Prop :=
  ∀ s : State, s.resetN = true →
    (s.ltc.link = .seek →
      (∀ g : Grade, g ≠ s.ltc.current →
        exec (.skReceived g) s = .next { s with ltc := { s.ltc with skRun := 0 } }) ∧
      (s.ltc.skRun < 2 →
        exec (.skReceived s.ltc.current) s = .next { s with ltc := { s.ltc with skRun := s.ltc.skRun + 1 } }) ∧
      (2 ≤ s.ltc.skRun →
        exec (.skReceived s.ltc.current) s = .next
          { s with
            ltc := { s.ltc with
              skRun := s.ltc.skRun + 1
              link := .align
              alRun := none
              alignTimer := if s.ltc.lockBypass then some s.ltc.alignCount.toNat else none }
            ltx := { s.ltx with alignIndex := 0 } }) ∧
      (∀ i : BitVec 8, 1 ≤ s.ltc.skRun →
        exec (.alReceived i) s = .next
          { s with
            ltc := { s.ltc with
              link := .align
              alRun := none
              alignTimer := if s.ltc.lockBypass then some s.ltc.alignCount.toNat else none }
            ltx := { s.ltx with alignIndex := 0 } }) ∧
      (∀ i : BitVec 8, s.ltc.skRun = 0 → exec (.alReceived i) s = .next s)) ∧
    (s.ltc.link = .align →
      (∀ i : BitVec 8, s.ltc.alRun ≠ some (i - 1) →
        exec (.alReceived i) s = .next { s with ltc := { s.ltc with alRun := some i } }) ∧
      (∀ i : BitVec 8, s.ltc.alRun = some (i - 1) →
        exec (.alReceived i) s = .next
          { s with ltc := { s.ltc with alRun := some i, link := .exchange, alignTimer := none } }) ∧
      ∀ g : Grade, exec (.skReceived g) s = .next s) ∧
    (s.ltc.link = .exchange →
      (∀ g : Grade, exec (.skReceived g) s = .next s) ∧ ∀ i : BitVec 8, exec (.alReceived i) s = .next s)

/-- A PM in ALIGN gives lock once an AL has been taken; in SEEK it is ignored; an invalid PM in EXCHANGE is reported with the
number of the first check that fails (R135, R138, R140). -/
def Obligations.ParametersBeforeAndFailingTheExchange : Prop :=
  ∀ (s : State) (n : BitVec 4) (g : Grade) (q w : BitVec 8), s.resetN = true →
    (s.ltc.link = .seek → exec (.pmReceived n g q w) s = .next s) ∧
    (s.ltc.link = .align → s.ltc.alRun = none → exec (.pmReceived n g q w) s = .next s) ∧
    (s.ltc.link = .align → s.ltc.alRun ≠ none →
      exec (.pmReceived n g q w) s = .next { s with ltc := { s.ltc with link := .exchange, alignTimer := none } }) ∧
    (s.ltc.link = .exchange →
      ∀ check : BitVec 16,
        ((check = 1 ∧ g ≠ s.ltc.current) ∨ (check = 2 ∧ g = s.ltc.current ∧ n = 0) ∨
          (check = 3 ∧ g = s.ltc.current ∧ n ≠ 0 ∧ (q.toNat = 0 ∨ 32 < q.toNat)) ∨
          (check = 4 ∧ g = s.ltc.current ∧ n ≠ 0 ∧ 1 ≤ q.toNat ∧ q.toNat ≤ 32 ∧ (w.toNat = 0 ∨ 64 < w.toNat))) →
        exec (.pmReceived n g q w) s = .next
          { s with evu := s.evu.report { kind := .paramInvalid, detail := some check } })

/-- A valid PM in EXCHANGE: with no session it starts one, with the session that stands it returns to ACTIVE and starts a
pass over the frames left, and otherwise it ends the session by teardown and a fresh start (R84, R117, R118, R126, R141,
R142, R143). -/
def Obligations.ValidParametersStartResumeOrEndTheSession : Prop :=
  ∀ (s : State) (n : BitVec 4) (q w : BitVec 8), s.resetN = true → s.ltc.link = .exchange → n ≠ 0 →
    1 ≤ q.toNat → q.toNat ≤ 32 → 1 ≤ w.toNat → w.toNat ≤ 64 →
    (s.ltc.partnerSession = 0 →
      exec (.pmReceived n s.ltc.current q w) s = .next
        { s with
          ltc := { s.ltc with
            partnerSession := n, requestOffer := q.toNat, writeOffer := w.toNat
            link := .active, lastGood := s.ltc.current, trial := false
            seekTimer := none, attempts := 0, skRun := 0, alRun := none }
          isu := { s.isu with allowance := q.toNat, writeOffer := w.toNat, sent := 0, returned := 0 }
          ltx := { s.ltx with next := 0, pass := none, shortRetry := 0, replayTimer := none, akDue := true }
          lrx := { s.lrx with
            expected := 0, nakOpen := false, coalescing := 0, ackDelayTimer := none, lineLossRun := 0 }
          evu := s.evu.raise .link }) ∧
    (s.ltc.partnerSession ≠ 0 →
      n = s.ltc.partnerSession ∧ q.toNat = s.ltc.requestOffer ∧ w.toNat = s.ltc.writeOffer →
      exec (.pmReceived n s.ltc.current q w) s = .next
        { s with
          ltc := { s.ltc with
            link := .active, lastGood := s.ltc.current, trial := false
            seekTimer := none, attempts := 0, skRun := 0, alRun := none }
          ltx :=
            if s.ltx.buffer = [] then { s.ltx with shortRetry := 0, replayTimer := none, akDue := true }
            else
              { s.ltx with
                shortRetry := 0
                replayTimer := none
                akDue := true
                pass := s.ltx.buffer.head?.map SentFrame.number
                replayCounter := s.ltx.replayCounter + 1
                wrapFlag := s.ltx.wrapFlag || decide (s.ltx.replayCounter = 0xFFFF) }
          lrx := { s.lrx with nakOpen := false, coalescing := 0, ackDelayTimer := none, lineLossRun := 0 }
          evu := s.evu.raise .link }) ∧
    (s.ltc.partnerSession ≠ 0 →
      n ≠ s.ltc.partnerSession ∨ q.toNat ≠ s.ltc.requestOffer ∨ w.toNat ≠ s.ltc.writeOffer →
      exec (.pmReceived n s.ltc.current q w) s = .next
        { s.teardown with
          ltc := { s.teardown.ltc with
            link := .seek
            ourSession := if s.ltc.ourSession = 15 then 1 else s.ltc.ourSession + 1
            current := s.ltc.staged
            trial := s.ltc.trial || decide (s.ltc.staged ≠ s.ltc.current)
            seekTimer := some (s.ltc.seekWindow.toNat * 100) } })

/-- A training frame in ACTIVE: a PM that repeats the session changes nothing but ends the line-loss run; every other
training frame makes a retrain with reason PARTNER, and an SK of our grade is the first of the new SK run (R116, R125, R133,
R134, R144). Our grade is here the one that the new SEEK runs at (log entry 8). -/
def Obligations.TrainingFramesInActive : Prop :=
  ∀ (s : State) (c : Instr) (run : Nat), s.resetN = true → s.ltc.link = .active →
    (c = .pmReceived s.ltc.partnerSession s.ltc.current (BitVec.ofNat 8 s.ltc.requestOffer)
        (BitVec.ofNat 8 s.ltc.writeOffer) → s.ltc.requestOffer < 256 → s.ltc.writeOffer < 256 →
      exec c s = .next { s with lrx := { s.lrx with lineLossRun := 0 } }) ∧
    (((∃ g, c = .skReceived g ∧ run = if g = s.ltc.staged then 1 else 0) ∨ (∃ i, c = .alReceived i ∧ run = 0) ∨
        (∃ n g q w, c = .pmReceived n g q w ∧ run = 0 ∧
          (n ≠ s.ltc.partnerSession ∨ g ≠ s.ltc.current ∨ q.toNat ≠ s.ltc.requestOffer ∨
            w.toNat ≠ s.ltc.writeOffer))) →
      exec c s = .next
        { s with
          ltc := { s.ltc with
            link := .seek
            lastReason := .partner
            current := s.ltc.staged
            trial := s.ltc.trial || decide (s.ltc.staged ≠ s.ltc.current)
            attempts := 0
            skRun := run
            alRun := none
            alignTimer := none
            seekTimer := some (s.ltc.seekWindow.toNat * 100) }
          ltx := { s.ltx with pass := none, replayTimer := none, akDue := false, nkDue := none }
          lrx := { s.lrx with lineLossRun := 0, ackDelayTimer := none } })

/-- Bad frames in ACTIVE: a rejected frame ends the line-loss run, a corrupt one raises it, and each makes a NK due unless a
NAK episode is open; the corrupt frame that brings the run to the threshold makes a retrain with reason LINE_LOSS instead
(R116, R123, R125, R133). That LRX's request to LTC for that retrain is taken in the same event is the model's reading (log
entry 19). -/
def Obligations.BadFramesInActive : Prop :=
  ∀ s : State, s.resetN = true → s.ltc.link = .active →
    (s.lrx.nakOpen = false →
      exec .rejectedFrameReceived s = .next
        { s with
          ltx := { s.ltx with nkDue := some (s.lrx.expected - 1) }
          lrx := { s.lrx with nakOpen := true, lineLossRun := 0 } }) ∧
    (s.lrx.nakOpen = true →
      exec .rejectedFrameReceived s = .next { s with lrx := { s.lrx with lineLossRun := 0 } }) ∧
    (s.lrx.lineLossRun + 1 < s.lrx.lineLossThreshold.toNat →
      (s.lrx.nakOpen = false →
        exec .corruptFrameReceived s = .next
          { s with
            ltx := { s.ltx with nkDue := some (s.lrx.expected - 1) }
            lrx := { s.lrx with nakOpen := true, lineLossRun := s.lrx.lineLossRun + 1 } }) ∧
      (s.lrx.nakOpen = true →
        exec .corruptFrameReceived s = .next
          { s with lrx := { s.lrx with lineLossRun := s.lrx.lineLossRun + 1 } })) ∧
    (s.lrx.lineLossThreshold.toNat ≤ s.lrx.lineLossRun + 1 →
      exec .corruptFrameReceived s = .next
        { s with
          ltc := { s.ltc with
            link := .seek
            lastReason := .lineLoss
            current := s.ltc.staged
            trial := s.ltc.trial || decide (s.ltc.staged ≠ s.ltc.current)
            attempts := 0
            skRun := 0
            alRun := none
            alignTimer := none
            seekTimer := some (s.ltc.seekWindow.toNat * 100) }
          ltx := { s.ltx with pass := none, replayTimer := none, akDue := false, nkDue := none }
          lrx := { s.lrx with nakOpen := true, lineLossRun := 0, ackDelayTimer := none } })

/-- Outside ACTIVE every frame that is not a training frame is dropped, and in OFF and FAILED training frames too: nothing
changes (R102). -/
def Obligations.FramesDroppedOutsideActive : Prop :=
  ∀ s : State, s.ltc.link ≠ .active →
    (∀ n tag st data, exec (.cpReceived n tag st data) s = .next s) ∧
    (∀ n k b, exec (.evReceived n k b) s = .next s) ∧
    (∀ n, exec (.akReceived n) s = .next s ∧ exec (.nkReceived n) s = .next s) ∧
    (∀ total, exec (.crReceived total) s = .next s) ∧
    exec .corruptFrameReceived s = .next s ∧ exec .rejectedFrameReceived s = .next s ∧
    (s.ltc.link = .off ∨ s.ltc.link = .failed →
      (∀ g, exec (.skReceived g) s = .next s) ∧ (∀ i, exec (.alReceived i) s = .next s) ∧
      ∀ n g q w, exec (.pmReceived n g q w) s = .next s)

/-! ### Timers -/

/-- The completion timer of an ISSUED entry expires: the tag is quarantined, TIMEOUT is raised, the entry fails with
NO_COMPLETION, its discard timer starts and the failure is reported (R21, R73). That the expiry acts whatever ticks the
timer has left is the model's choice (log entry 3), and that it changes nothing for an entry that is not ISSUED is its
reading (log entry 1). -/
def Obligations.CompletionTimerExpiryFailsTheEntry : Prop :=
  ∀ (s : State) (e : Fin 16), s.resetN = true →
    (∀ (h : Held) (tag : Fin 32) (n : Nat), s.hrt.entries[e] = some h → h.phase = .issued tag n →
      exec (.completionTimerExpiry e) s = .next
        { s with
          isu := { s.isu with tags := s.isu.tags.set tag .quarantined }
          hrt := { s.hrt with
            entries := s.hrt.entries.set e (some
              { h with phase := .failed .noCompletion (s.hrt.discardInterval.toNat * 64) }) }
          evu := (s.evu.raise .timeout).report
            { kind := .noCompletion, requester := some h.requester, offset := some h.offset
              window := some h.window, entry := some e, tag := some tag, remote := some (h.remote, h.segment) } }) ∧
    ((∀ h ∈ s.hrt.entries[e], ∀ tag n, h.phase ≠ .issued tag n) →
      exec (.completionTimerExpiry e) s = .next s)

/-- The discard timer of a READY or FAILED entry expires: the entry becomes FREE, its requester's held count falls and
its discard run rises to at most 15, the discard count rises to at most 65535, and a run at the threshold lapses a
requester that is not lapsed yet and raises LAPSE (R3, R23). That the expiry acts whatever ticks the timer has left is
the model's choice (log entry 3), that it changes nothing for an entry in another state is its reading (log entry 1), and
that a held count of 0, which no run reaches, stays 0 is its choice (log entry 15). -/
def Obligations.DiscardTimerExpiryFreesTheEntry : Prop :=
  ∀ (s : State) (e : Fin 16), s.resetN = true →
    (∀ (h : Held) (q : Requester) (lapse : Bool), s.hrt.entries[e] = some h →
      ((∃ d n, h.phase = .ready d n) ∨ (∃ f n, h.phase = .failed f n)) →
      q = s.hrt.requesters[h.requester] →
      lapse = (!q.lapsed && decide (s.hrt.lapseThreshold ≠ 0 ∧
        s.hrt.lapseThreshold.toNat ≤ min 15 (q.discardRun + 1))) →
      exec (.discardTimerExpiry e) s = .next
        { s with
          hrt := { s.hrt with
            entries := Vector.ofFn fun i : Fin 16 =>
              if i = e then none
              else s.hrt.entries[i].map fun g =>
                if g.requester = h.requester ∧ h.order < g.order then { g with order := g.order - 1 } else g
            requesters := s.hrt.requesters.set h.requester { q with
              heldCount := q.heldCount - 1
              discardRun := min 15 (q.discardRun + 1)
              lapsed := q.lapsed || lapse }
            discardCount := min 65535 (s.hrt.discardCount + 1) }
          evu := if lapse then s.evu.raise .lapse else s.evu }) ∧
    ((∀ h ∈ s.hrt.entries[e], (∀ d n, h.phase ≠ .ready d n) ∧ ∀ f n, h.phase ≠ .failed f n) →
      exec (.discardTimerExpiry e) s = .next s)

/-- The replay timer expires: with no pass running a replay is due, while one runs nothing becomes due. The ack delay
timer expires: an AK becomes due. The align count timer expires in ALIGN: lock is assumed (R111, R124, R139). That an
expiry acts whatever ticks its timer has left is the model's choice (log entry 3); that a timer that does not run does not
expire is its reading (log entry 1), and so is that the replay that is due makes its request to LTC, if any, in the same
event (log entry 19). -/
def Obligations.LinkTimerExpiries : Prop :=
  ∀ s : State, s.resetN = true →
    (s.ltx.replayTimer ≠ none → s.ltx.pass = none →
      exec .replayTimerExpiry s = .next { s with ltx := { s.ltx with replayTimer := none } }.replayDue) ∧
    (s.ltx.replayTimer ≠ none → s.ltx.pass ≠ none →
      exec .replayTimerExpiry s = .next { s with ltx := { s.ltx with replayTimer := none } }) ∧
    (s.ltx.replayTimer = none → exec .replayTimerExpiry s = .next s) ∧
    (s.lrx.ackDelayTimer ≠ none →
      exec .ackDelayTimerExpiry s = .next
        { s with lrx := { s.lrx with ackDelayTimer := none }, ltx := { s.ltx with akDue := true } }) ∧
    (s.lrx.ackDelayTimer = none → exec .ackDelayTimerExpiry s = .next s) ∧
    (s.ltc.link = .align → s.ltc.alignTimer ≠ none →
      exec .alignCountExpiry s = .next { s with ltc := { s.ltc with link := .exchange, alignTimer := none } }) ∧
    (s.ltc.link ≠ .align ∨ s.ltc.alignTimer = none → exec .alignCountExpiry s = .next s)

/-- The seek window expires: an attempt is counted, the link is in SEEK and the window restarts; at a limit that is not
0 a trial falls back to the last good grade and raises FALLBACK, and without a trial the link fails with TRAIN_TIMEOUT
after a teardown, raises LINK, and the transmit pair carries idle fill (R99, R131, R136, R137, R146). That the expiry
acts whatever ticks the timer has left is the model's choice (log entry 3), that a stopped timer does not expire is its
reading (log entry 1), and that the frame begun before has ended at the entry to FAILED is its choice (log entry 14). -/
def Obligations.SeekWindowExpiryCountsAnAttempt : Prop :=
  (∀ s : State, s.ltc.seekTimer = none → exec .seekWindowExpiry s = .next s) ∧
  ∀ (s t : State) (attempts : Nat), s.resetN = true → s.ltc.seekTimer ≠ none →
    attempts = min 15 (s.ltc.attempts + 1) →
    t =
      { s with
        ltc := { s.ltc with
          link := .seek, attempts := attempts, skRun := 0, alRun := none, alignTimer := none
          seekTimer := some (s.ltc.seekWindow.toNat * 100) } } →
    (s.ltc.attemptLimit = 0 ∨ attempts < s.ltc.attemptLimit.toNat → exec .seekWindowExpiry s = .next t) ∧
    (s.ltc.attemptLimit ≠ 0 → s.ltc.attemptLimit.toNat ≤ attempts →
      (s.ltc.trial = true →
        exec .seekWindowExpiry s = .next
          { t with
            ltc := { t.ltc with
              current := s.ltc.lastGood, staged := s.ltc.lastGood, trial := false, attempts := 0 }
            evu := s.evu.raise .fallback }) ∧
      (s.ltc.trial = false →
        exec .seekWindowExpiry s = .next
          { t.teardown with
            ltc := { t.teardown.ltc with link := .failed, failure := .trainTimeout, seekTimer := none }
            evu := t.teardown.evu.raise .link
            tx := .idleFill }))

/-! ### The transmit pair -/

/-- A new-frame slot that goes to the posted path: the oldest write departs in a PW frame under the next sequence
number, a credit is taken, every writes-ahead count above 0 falls by 1, and the replay timer starts if the buffer was
empty. The slot goes there when only the queue can go, under WRITES_FIRST, and under ALTERNATE when the last contested
slot was HELD (R18, R49, R53, R54, R55, R76, R106). A slot that neither path can take is declined: nothing of the
selection changes, and the pair carries idle fill. With nothing due and 32 frames in the buffer no slot is offered, and
the free pair carries idle fill. No slot is offered outside ACTIVE, while a control frame is due or while a pass runs
(R53, R99, R107). That the row stands for a free pair, and changes nothing where no slot is offered and another frame is
to be sent, is the model's reading (log entries 1 and 14). -/
def Obligations.NewFrameSlotPostedOrDeclined : Prop :=
  (∀ (s : State) (w : PostedWrite) (rest : List PostedWrite) (bytes : List Byte),
      s.resetN = true → s.ltc.link = .active →
      s.ltx.nkDue = none → s.ltx.akDue = false → s.ltx.pass = none → s.ltx.buffer.length < 32 →
      s.pwq.queue = w :: rest → (s.isu.sent - s.isu.returned).toNat < s.isu.writeOffer →
      (s.heldCanGo = false ∨ s.reg.policy = .writesFirst ∨ s.pwq.lastContested = .held) →
      bytes = withCrc
        ([byte0 1 (0#2 ++ w.segment), numberByte s.ltx.next, sizeByte w.size] ++ addressBytes w.remote ++ w.data) →
      exec .newFrameSlot s = .next
        { s with
          pwq := { s.pwq with
            queue := rest, lastContested := if s.heldCanGo then .posted else s.pwq.lastContested }
          isu := { s.isu with sent := s.isu.sent + 1 }
          hrt := { s.hrt with
            entries := Vector.ofFn fun e : Fin 16 => s.hrt.entries[e].map fun h =>
              match h.phase with
              | .queued n => { h with phase := .queued (n - 1) }
              | .issued _ _ | .ready _ _ | .failed _ _ => h }
          ltx := { s.ltx with
            buffer := s.ltx.buffer ++ [{ number := s.ltx.next, bytes := bytes }]
            next := s.ltx.next + 1
            replayTimer :=
              if s.ltx.buffer = [] then some (s.ltx.replayInterval.toNat * 4) else s.ltx.replayTimer }
          tx := .frame bytes }) ∧
  ∀ s : State, s.resetN = true →
    (s.ltc.link = .active → s.ltx.nkDue = none → s.ltx.akDue = false → s.ltx.pass = none →
      s.ltx.buffer.length < 32 → s.heldCanGo = false → s.postedCanGo = false →
      exec .newFrameSlot s = .next { s with tx := .idleFill }) ∧
    (s.ltc.link = .active → s.ltx.nkDue = none → s.ltx.akDue = false → s.ltx.pass = none →
      32 ≤ s.ltx.buffer.length → exec .newFrameSlot s = .next { s with tx := .idleFill }) ∧
    (s.ltc.link ≠ .active ∨ s.ltx.nkDue ≠ none ∨ s.ltx.akDue = true ∨ s.ltx.pass ≠ none →
      exec .newFrameSlot s = .next s)

/-- A new-frame slot that goes to the held path: the granted requester's oldest QUEUED entry, which waits for no write, is
issued with the lowest-numbered FREE tag below Q, in a HR or HW frame under the next sequence number. The slot goes there
when the queue cannot go, and under ALTERNATE when the last contested slot was POSTED (R19, R53, R55, R65, R66, R71, R106).
That the row stands for a free pair is the model's choice (log entry 14). -/
def Obligations.NewFrameSlotOfTheHeldPath : Prop :=
  ∀ s : State, s.resetN = true → s.ltc.link = .active →
    s.ltx.nkDue = none → s.ltx.akDue = false → s.ltx.pass = none → s.ltx.buffer.length < 32 →
    s.heldCanGo = true →
    (s.postedCanGo = false ∨ (s.reg.policy = .alternate ∧ s.pwq.lastContested = .posted)) →
    ∃ (g : Grant) (e : Fin 16) (h : Held) (tag : Fin 32) (bytes : List Byte),
      grant s.hrt s.isu = some g ∧
      s.hrt.entries[e] = some h ∧ h.requester = g.requester ∧ h.phase = .queued 0 ∧
      (∀ f : Fin 16, ∀ k ∈ s.hrt.entries[f], k.requester = g.requester → k.isQueued = true → h.order ≤ k.order) ∧
      s.isu.tags[tag] = .free ∧ tag.val < s.isu.allowance ∧
      (∀ u : Fin 32, u < tag → s.isu.tags[u] ≠ .free) ∧
      bytes = withCrc
        (match h.kind with
          | .read =>
            [byte0 2 (0#2 ++ h.segment), numberByte s.ltx.next, tagByte tag, sizeByte h.size] ++ addressBytes h.remote
          | .hwrite data =>
            [byte0 3 (0#2 ++ h.segment), numberByte s.ltx.next, tagByte tag, sizeByte h.size] ++
              addressBytes h.remote ++ data) ∧
      exec .newFrameSlot s = .next
        { s with
          pwq := { s.pwq with lastContested := if s.postedCanGo then .held else s.pwq.lastContested }
          isu := { s.isu with
            tags := s.isu.tags.set tag .held, pointerA := g.pointerA, pointerB := g.pointerB }
          hrt := { s.hrt with
            entries := s.hrt.entries.set e (some
              { h with phase := .issued tag (s.isu.completionTimeout.toNat * 1000) }) }
          ltx := { s.ltx with
            buffer := s.ltx.buffer ++ [{ number := s.ltx.next, bytes := bytes }]
            next := s.ltx.next + 1
            replayTimer :=
              if s.ltx.buffer = [] then some (s.ltx.replayInterval.toNat * 4) else s.ltx.replayTimer }
          tx := .frame bytes }

/-- The arbiter grants the first eligible member that it reaches from the position after pointer A, round to the pointer
itself; when that is the B-slot, it searches ring B in the same way from pointer B, and the pointers move to the positions
that won (R79, R80, R81, R82). -/
def Obligations.ArbiterGrantsTheNextEligibleMember : Prop :=
  ∀ (t : Hrt) (u : Isu),
    (grant t u = none ↔ ∀ r : Fin 8, t.eligible r = false) ∧
    ∀ g : Grant, grant t u = some g →
      t.eligible g.requester = true ∧
      ((g.pointerA = some (.requester g.requester) ∧ t.requesters[g.requester].level = .a ∧
          g.pointerB = u.pointerB ∧
          ∀ x : RingA, t.eligibleA x = true →
            RingA.distance u.pointerA (.requester g.requester) ≤ RingA.distance u.pointerA x) ∨
        (g.pointerA = some .bSlot ∧ t.requesters[g.requester].level = .b ∧ g.pointerB = some g.requester ∧
          (∀ x : RingA, t.eligibleA x = true → RingA.distance u.pointerA .bSlot ≤ RingA.distance u.pointerA x) ∧
          ∀ r : Fin 8, t.eligibleB r = true →
            match u.pointerB with
            | none => g.requester ≤ r
            | some p => (g.requester.val + 7 - p.val) % 8 ≤ (r.val + 7 - p.val) % 8))

/-- In ACTIVE a due NK goes out first, with its recorded number; then a due AK, with the last good number, which zeroes
the coalescing count and stops the ack delay timer; then the frame at the pass position, byte for byte as first sent,
after which the position moves on, or the pass ends and the replay timer restarts (R107, R108, R111, R124). The training
frames sent: SK at the current grade in SEEK, AL with rising index in ALIGN, PM with our session number, the current
grade and offers of 0 in EXCHANGE (R96, R97, R99, Table 5-2). That a training row commanded in another state changes
nothing, and that the pair is free at each of these rows, is the model's reading (log entries 1 and 14). -/
def Obligations.ControlReplayedAndTrainingFramesSent : Prop :=
  (∀ s : State, s.resetN = true → s.ltc.link = .active →
      (∀ n : BitVec 7, s.ltx.nkDue = some n →
        exec .sendNk s = .next
          { s with
            ltx := { s.ltx with nkDue := none }
            tx := .frame (withCrc [0x90, n.setWidth 8]) }) ∧
      (s.ltx.nkDue = none → s.ltx.akDue = true →
        exec .sendAk s = .next
          { s with
            ltx := { s.ltx with akDue := false }
            lrx := { s.lrx with coalescing := 0, ackDelayTimer := none }
            tx := .frame (withCrc [0x80, (s.lrx.expected - 1).setWidth 8]) }) ∧
      (s.ltx.nkDue = none → s.ltx.akDue = false →
        ∀ (old rest : List SentFrame) (f : SentFrame), s.ltx.buffer = old ++ f :: rest →
          s.ltx.pass = some f.number → (∀ g ∈ old, g.number ≠ f.number) →
          exec .replayPassResend s = .next
            { s with
              ltx := { s.ltx with
                pass := rest.head?.map SentFrame.number
                replayTimer := if rest = [] then some (s.ltx.replayInterval.toNat * 4) else s.ltx.replayTimer }
              tx := .frame f.bytes })) ∧
  ∀ (s : State) (grade : Byte), s.resetN = true →
    ((s.ltc.current = .g1 ∧ grade = 0) ∨ (s.ltc.current = .g2 ∧ grade = 1) ∨ (s.ltc.current = .g3 ∧ grade = 2) ∨
      (s.ltc.current = .g4 ∧ grade = 3)) →
    (s.ltc.link = .seek →
      exec .sendSk s = .next
        { s with tx := .frame (withCrc [0xC0 + grade, 0x3C, 0xC3, 0x5A, 0xA5, 0x0F, 0xF0]) }) ∧
    (s.ltc.link = .align →
      exec .sendAl s = .next
        { s with
          ltx := { s.ltx with alignIndex := s.ltx.alignIndex + 1 }
          tx := .frame (withCrc [0xD0, s.ltx.alignIndex]) }) ∧
    (s.ltc.link = .exchange →
      exec .sendPm s = .next
        { s with tx := .frame (withCrc [0xE0 + s.ltc.ourSession.setWidth 8, grade, 0, 0]) }) ∧
    (s.ltc.link ≠ .seek → exec .sendSk s = .next s) ∧
    (s.ltc.link ≠ .align → exec .sendAl s = .next s) ∧
    (s.ltc.link ≠ .exchange → exec .sendPm s = .next s)

/-! ### The receive pair -/

/-- The CRC of the nine characters 123456789 is 29B1H, and a frame carries its CRC in its last two bytes, most
significant byte first (R91). A frame of a form that has a length, whole on the receive pair and start marker first,
becomes one command in the queue after as many steps as it has symbols, when the receiver waits for a start marker: an
accepted form the command of its kind with the fields it carries, whatever the bits that are ignored hold; PW, HR, HW, a
CP with status code 3 and an SK with another pattern a rejected frame; and any of them whose CRC does not fit a corrupt
frame (R89, R91, R93 to R98, R100, Table 5-2, Table 5-3). A frame of an unassigned kind code and a CP with a data length
above 64 are corrupt at the byte that shows it, which is the model's reading (log entry 7). A start marker inside a
frame makes the frame corrupt and begins another, and a byte outside a frame is ignored (R89). That a symbol is taken at
a step on an empty queue is the model's choice (log entry 6). -/
def Obligations.FramesOnTheReceivePairBecomeTheirCommands : Prop :=
  (crc [0x31, 0x32, 0x33, 0x34, 0x35, 0x36, 0x37, 0x38, 0x39] = 0x29B1 ∧
    ∀ bytes : List Byte,
      withCrc bytes = bytes ++ [(crc bytes).extractLsb' 8 8, (crc bytes).extractLsb' 0 8]) ∧
  (∀ (s : State) (body frame : List Byte) (a b : Byte) (c : Instr) (later : List LineSymbol),
    s.resetN = true → s.pending = [] → s.lrx.framing = none →
    -- the accepted forms, with any value of the bits that are ignored
    ((∃ (z : BitVec 4) (x : Byte), body = [0x8#4 ++ z, x] ∧ c = .akReceived (x.extractLsb' 0 7)) ∨
      (∃ (z : BitVec 4) (x : Byte), body = [0x9#4 ++ z, x] ∧ c = .nkReceived (x.extractLsb' 0 7)) ∨
      (∃ (z : BitVec 4) (x : Byte), body = [0xA#4 ++ z, x] ∧ c = .crReceived x) ∨
      (∃ (z : BitVec 4) (x : Byte), body = [0xD#4 ++ z, x] ∧ c = .alReceived x) ∨
      (∃ (z : BitVec 2) (g : Grade),
        body = (0xC#4 ++ z ++ gradeBits g) :: [0x3C, 0xC3, 0x5A, 0xA5, 0x0F, 0xF0] ∧ c = .skReceived g) ∨
      (∃ (n : BitVec 4) (z : BitVec 6) (g : Grade) (q w : Byte),
        body = [0xE#4 ++ n, z ++ gradeBits g, q, w] ∧ c = .pmReceived n g q w) ∨
      (∃ (k : BitVec 4) (x : Byte) (v : Vector Byte 7),
        body = [0x5#4 ++ k, x] ++ v.toList ∧ c = .evReceived (x.extractLsb' 0 7) k v) ∨
      (∃ (z : BitVec 2) (x y : Byte) (st : CpStatus) (data : List Byte), data.length ≤ 64 ∧
        body = [0x4#4 ++ z ++ (match st with
            | .ok => 0#2
            | .remoteFault => 1#2
            | .unsupported => 2#2), x, y, BitVec.ofNat 8 data.length] ++ data ∧
        c = .cpReceived (x.extractLsb' 0 7) (y.extractLsb' 0 5).toFin st data) ∨
      -- the rejected forms
      (c = .rejectedFrameReceived ∧
        ((∃ (z : BitVec 2) (x y : Byte) (data : List Byte), data.length ≤ 64 ∧
            body = [0x4#4 ++ z ++ 3#2, x, y, BitVec.ofNat 8 data.length] ++ data) ∨
          (∃ (z : BitVec 4) (x y : Byte) (rest : List Byte), rest.length = (y.extractLsb' 0 6).toNat + 6 ∧
            body = [0x1#4 ++ z, x, y] ++ rest) ∨
          (∃ (z : BitVec 4) (rest : List Byte), rest.length = 8 ∧ body = (0x2#4 ++ z) :: rest) ∨
          (∃ (z : BitVec 4) (x y t : Byte) (rest : List Byte), rest.length = (t.extractLsb' 0 6).toNat + 6 ∧
            body = [0x3#4 ++ z, x, y, t] ++ rest) ∨
          (∃ (z : BitVec 4) (pattern : List Byte), pattern.length = 6 ∧
            pattern ≠ [0x3C, 0xC3, 0x5A, 0xA5, 0x0F, 0xF0] ∧ body = (0xC#4 ++ z) :: pattern)))) →
    frame = body ++ [a, b] →
    s.rxLine = .start :: frame.map .byte ++ later →
    -- a frame of any of these forms whose CRC does not fit is corrupt
    Host.Core.run Sys2Proof.core (frame.length + 1) s = .next
      { s with rxLine := later, pending := [if frame = withCrc body then c else .corruptFrameReceived] }) ∧
  -- the corrupt frames whose length cannot be computed, what is truncated, and what stands outside frames
  (∀ (s : State) (x y z l : Byte) (later : List LineSymbol), s.resetN = true → s.pending = [] →
    s.lrx.framing = none →
    (x.extractLsb' 4 4 ∈ [0x0#4, 0x6#4, 0x7#4, 0xB#4, 0xF#4] → s.rxLine = .start :: .byte x :: later →
      Host.Core.run Sys2Proof.core 2 s = .next
        { s with rxLine := later, pending := [.corruptFrameReceived] }) ∧
    (x.extractLsb' 4 4 = 0x4#4 → 64 < l.toNat →
      s.rxLine = .start :: .byte x :: .byte y :: .byte z :: .byte l :: later →
      Host.Core.run Sys2Proof.core 5 s = .next
        { s with rxLine := later, pending := [.corruptFrameReceived] }) ∧
    (s.rxLine = .byte x :: later → Host.Core.run Sys2Proof.core 1 s = .next { s with rxLine := later })) ∧
  ∀ (s : State) (bytes : List Byte) (later : List LineSymbol), s.resetN = true → s.pending = [] →
    s.lrx.framing = some bytes → s.rxLine = .start :: later →
    Host.Core.run Sys2Proof.core 1 s = .next
      { s with
        rxLine := later
        lrx := { s.lrx with framing := some [] }
        pending := [.corruptFrameReceived] }

/-! ### Invariants -/

/-- The state after reset meets every invariant below. -/
def Obligations.ResetMeetsEveryInvariant : Prop :=
  State.reset.evu.consistent ∧ State.reset.hrt.consistent ∧ State.reset.writesOrdered ∧ State.reset.ledgerKept ∧
    State.reset.replayKept ∧ State.reset.ltc.trainingKept ∧ State.reset.downEmpty ∧
    State.reset.controlsInRange ∧ State.reset.dataFits ∧ State.reset.heldWhileLow

/-- Each interrupt line is asserted exactly when some pending, enabled cause is routed to it, after every step; the later
count and the repeat counts keep their ranges (R156, R164, R165, R166). -/
def Obligations.StepKeepsInterruptLines : Prop :=
  ∀ s t : State, s.evu.consistent → step s = .next t → t.evu.consistent

/-- No two entries share a key, creation orders rank each requester's entries, held counts count them, no requester holds
more than four, and every entry's size is ruled, after every step (R2, R3, R5, R15, R25). -/
def Obligations.StepKeepsHeldTable : Prop :=
  ∀ s t : State, s.hrt.consistent → step s = .next t → t.hrt.consistent

/-- No entry waits for more writes than the queue holds, and an older entry of a requester never waits for more than a
younger one, after every step (R18, R45, R51). -/
def Obligations.StepKeepsWritesOrdered : Prop :=
  ∀ s t : State, s.writesOrdered → step s = .next t → t.writesOrdered

/-- A tag is HELD exactly while one ISSUED entry holds it, only tags below Q are in use, the offers in force are those
recorded, and the credits in use never exceed the write offer, after every step (R63, R64, R75, R76). -/
def Obligations.StepKeepsTagsAndCredits : Prop :=
  ∀ s t : State, s.ledgerKept → step s = .next t → t.ledgerKept

/-- The replay buffer holds at most 32 frames under consecutive numbers, a pass stands at a frame of it, and nothing of a
session is left outside it, after every step (R105, R108, R111, R116, R118). -/
def Obligations.StepKeepsReplayBuffer : Prop :=
  ∀ s t : State, s.replayKept → step s = .next t → t.replayKept

/-- In OFF and FAILED no entry is QUEUED or ISSUED, the posted write queue and the replay buffer are empty, every tag is
FREE and the transmit pair carries idle fill, after every step (R99, R105, R153). That the frame begun before has ended
at the entry to OFF or FAILED is the model's choice (log entry 14). -/
def Obligations.StepKeepsDownLinkEmpty : Prop :=
  ∀ s t : State, s.downEmpty → step s = .next t → t.downEmpty

/-- Every control keeps its range and every retry and coalescing count its own, after every step (R28, R71, R127, R155,
R178). The seek window timer runs in the training states alone, the align count timer in ALIGN alone, and the runs and
the attempt count keep their ranges, after every step (R132, R135, R136, R138, R139). While RESET_N is low every item of
the part holds its chip reset value, after every step (R180). Of these values the spec states none for the clocks left of
the first tick (log entry 5) and the align index (log entry 10): both are the model's choice. That the timebase stands and
a symbol on the receive pair is dropped while RESET_N is low is the model's reading, and that what stands outside the part
(the queue, the receive pair, the model's counter) is not held is its choice (log entry 17), as it is for the last answer
(log entry 11). -/
def Obligations.StepKeepsControlsTrainingAndChipReset : Prop :=
  (∀ s t : State, s.controlsInRange → step s = .next t → t.controlsInRange) ∧
  (∀ s t : State, s.ltc.trainingKept → step s = .next t → t.ltc.trainingKept) ∧
  ∀ s t : State, s.heldWhileLow → step s = .next t → t.heldWhileLow

/-- The data of every held entry and of every posted write have the size of their transfer, and a READY read has its size of
read data, after every step, as long as the waiting commands are well-formed (R20, R45, Table 1-7). -/
def Obligations.StepKeepsDataLengths : Prop :=
  ∀ s t : State, s.dataFits → step s = .next t → t.dataFits

end
end

