-- ==== Sys2Proof/Laws/State.lean ====
section
/-! SUPPORT. Each field of State after each shared operation that is one record update: the new value where the operation
writes the field, the old one elsewhere. A proof that meets such an operation needs no unfolding of it. -/

namespace Sys2Proof.Machine

/-! ### answered -/

@[simp] theorem State.answered_win (a : Answer) (s : State) : (s.answered a).win = s.win := rfl
@[simp] theorem State.answered_hrt (a : Answer) (s : State) : (s.answered a).hrt = s.hrt := rfl
@[simp] theorem State.answered_pwq (a : Answer) (s : State) : (s.answered a).pwq = s.pwq := rfl
@[simp] theorem State.answered_isu (a : Answer) (s : State) : (s.answered a).isu = s.isu := rfl
@[simp] theorem State.answered_ltx (a : Answer) (s : State) : (s.answered a).ltx = s.ltx := rfl
@[simp] theorem State.answered_lrx (a : Answer) (s : State) : (s.answered a).lrx = s.lrx := rfl
@[simp] theorem State.answered_ltc (a : Answer) (s : State) : (s.answered a).ltc = s.ltc := rfl
@[simp] theorem State.answered_evu (a : Answer) (s : State) : (s.answered a).evu = s.evu := rfl
@[simp] theorem State.answered_reg (a : Answer) (s : State) : (s.answered a).reg = s.reg := rfl
@[simp] theorem State.answered_resetN (a : Answer) (s : State) : (s.answered a).resetN = s.resetN := rfl
@[simp] theorem State.answered_answer (a : Answer) (s : State) : (s.answered a).answer = some a := rfl
@[simp] theorem State.answered_tx (a : Answer) (s : State) : (s.answered a).tx = s.tx := rfl
@[simp] theorem State.answered_rxLine (a : Answer) (s : State) : (s.answered a).rxLine = s.rxLine := rfl
@[simp] theorem State.answered_freeDraws (a : Answer) (s : State) : (s.answered a).freeDraws = s.freeDraws := rfl
@[simp] theorem State.answered_pending (a : Answer) (s : State) : (s.answered a).pending = s.pending := rfl

/-! ### send -/

@[simp] theorem State.send_win (bytes : List Byte) (s : State) : (s.send bytes).win = s.win := rfl
@[simp] theorem State.send_hrt (bytes : List Byte) (s : State) : (s.send bytes).hrt = s.hrt := rfl
@[simp] theorem State.send_pwq (bytes : List Byte) (s : State) : (s.send bytes).pwq = s.pwq := rfl
@[simp] theorem State.send_isu (bytes : List Byte) (s : State) : (s.send bytes).isu = s.isu := rfl
@[simp] theorem State.send_ltx (bytes : List Byte) (s : State) : (s.send bytes).ltx = s.ltx := rfl
@[simp] theorem State.send_lrx (bytes : List Byte) (s : State) : (s.send bytes).lrx = s.lrx := rfl
@[simp] theorem State.send_ltc (bytes : List Byte) (s : State) : (s.send bytes).ltc = s.ltc := rfl
@[simp] theorem State.send_evu (bytes : List Byte) (s : State) : (s.send bytes).evu = s.evu := rfl
@[simp] theorem State.send_reg (bytes : List Byte) (s : State) : (s.send bytes).reg = s.reg := rfl
@[simp] theorem State.send_resetN (bytes : List Byte) (s : State) : (s.send bytes).resetN = s.resetN := rfl
@[simp] theorem State.send_answer (bytes : List Byte) (s : State) : (s.send bytes).answer = s.answer := rfl
@[simp] theorem State.send_tx (bytes : List Byte) (s : State) : (s.send bytes).tx = .frame bytes := rfl
@[simp] theorem State.send_rxLine (bytes : List Byte) (s : State) : (s.send bytes).rxLine = s.rxLine := rfl
@[simp] theorem State.send_freeDraws (bytes : List Byte) (s : State) : (s.send bytes).freeDraws = s.freeDraws := rfl
@[simp] theorem State.send_pending (bytes : List Byte) (s : State) : (s.send bytes).pending = s.pending := rfl

/-! ### raise -/

@[simp] theorem State.raise_win (c : LocalCause) (s : State) : (s.raise c).win = s.win := rfl
@[simp] theorem State.raise_hrt (c : LocalCause) (s : State) : (s.raise c).hrt = s.hrt := rfl
@[simp] theorem State.raise_pwq (c : LocalCause) (s : State) : (s.raise c).pwq = s.pwq := rfl
@[simp] theorem State.raise_isu (c : LocalCause) (s : State) : (s.raise c).isu = s.isu := rfl
@[simp] theorem State.raise_ltx (c : LocalCause) (s : State) : (s.raise c).ltx = s.ltx := rfl
@[simp] theorem State.raise_lrx (c : LocalCause) (s : State) : (s.raise c).lrx = s.lrx := rfl
@[simp] theorem State.raise_ltc (c : LocalCause) (s : State) : (s.raise c).ltc = s.ltc := rfl
@[simp] theorem State.raise_evu (c : LocalCause) (s : State) : (s.raise c).evu = s.evu.raise c := rfl
@[simp] theorem State.raise_reg (c : LocalCause) (s : State) : (s.raise c).reg = s.reg := rfl
@[simp] theorem State.raise_resetN (c : LocalCause) (s : State) : (s.raise c).resetN = s.resetN := rfl
@[simp] theorem State.raise_answer (c : LocalCause) (s : State) : (s.raise c).answer = s.answer := rfl
@[simp] theorem State.raise_tx (c : LocalCause) (s : State) : (s.raise c).tx = s.tx := rfl
@[simp] theorem State.raise_rxLine (c : LocalCause) (s : State) : (s.raise c).rxLine = s.rxLine := rfl
@[simp] theorem State.raise_freeDraws (c : LocalCause) (s : State) : (s.raise c).freeDraws = s.freeDraws := rfl
@[simp] theorem State.raise_pending (c : LocalCause) (s : State) : (s.raise c).pending = s.pending := rfl

/-! ### report -/

@[simp] theorem State.report_win (r : FaultRecord) (s : State) : (s.report r).win = s.win := rfl
@[simp] theorem State.report_hrt (r : FaultRecord) (s : State) : (s.report r).hrt = s.hrt := rfl
@[simp] theorem State.report_pwq (r : FaultRecord) (s : State) : (s.report r).pwq = s.pwq := rfl
@[simp] theorem State.report_isu (r : FaultRecord) (s : State) : (s.report r).isu = s.isu := rfl
@[simp] theorem State.report_ltx (r : FaultRecord) (s : State) : (s.report r).ltx = s.ltx := rfl
@[simp] theorem State.report_lrx (r : FaultRecord) (s : State) : (s.report r).lrx = s.lrx := rfl
@[simp] theorem State.report_ltc (r : FaultRecord) (s : State) : (s.report r).ltc = s.ltc := rfl
@[simp] theorem State.report_evu (r : FaultRecord) (s : State) : (s.report r).evu = s.evu.report r := rfl
@[simp] theorem State.report_reg (r : FaultRecord) (s : State) : (s.report r).reg = s.reg := rfl
@[simp] theorem State.report_resetN (r : FaultRecord) (s : State) : (s.report r).resetN = s.resetN := rfl
@[simp] theorem State.report_answer (r : FaultRecord) (s : State) : (s.report r).answer = s.answer := rfl
@[simp] theorem State.report_tx (r : FaultRecord) (s : State) : (s.report r).tx = s.tx := rfl
@[simp] theorem State.report_rxLine (r : FaultRecord) (s : State) : (s.report r).rxLine = s.rxLine := rfl
@[simp] theorem State.report_freeDraws (r : FaultRecord) (s : State) : (s.report r).freeDraws = s.freeDraws := rfl
@[simp] theorem State.report_pending (r : FaultRecord) (s : State) : (s.report r).pending = s.pending := rfl

/-! ### refuse -/

@[simp] theorem State.refuse_win (r : FaultRecord) (s : State) : (s.refuse r).win = s.win := rfl
@[simp] theorem State.refuse_hrt (r : FaultRecord) (s : State) : (s.refuse r).hrt = s.hrt := rfl
@[simp] theorem State.refuse_pwq (r : FaultRecord) (s : State) : (s.refuse r).pwq = s.pwq := rfl
@[simp] theorem State.refuse_isu (r : FaultRecord) (s : State) : (s.refuse r).isu = s.isu := rfl
@[simp] theorem State.refuse_ltx (r : FaultRecord) (s : State) : (s.refuse r).ltx = s.ltx := rfl
@[simp] theorem State.refuse_lrx (r : FaultRecord) (s : State) : (s.refuse r).lrx = s.lrx := rfl
@[simp] theorem State.refuse_ltc (r : FaultRecord) (s : State) : (s.refuse r).ltc = s.ltc := rfl
@[simp] theorem State.refuse_evu (r : FaultRecord) (s : State) : (s.refuse r).evu = s.evu.report r := rfl
@[simp] theorem State.refuse_reg (r : FaultRecord) (s : State) : (s.refuse r).reg = s.reg := rfl
@[simp] theorem State.refuse_resetN (r : FaultRecord) (s : State) : (s.refuse r).resetN = s.resetN := rfl
@[simp] theorem State.refuse_answer (r : FaultRecord) (s : State) : (s.refuse r).answer = some .fault := rfl
@[simp] theorem State.refuse_tx (r : FaultRecord) (s : State) : (s.refuse r).tx = s.tx := rfl
@[simp] theorem State.refuse_rxLine (r : FaultRecord) (s : State) : (s.refuse r).rxLine = s.rxLine := rfl
@[simp] theorem State.refuse_freeDraws (r : FaultRecord) (s : State) : (s.refuse r).freeDraws = s.freeDraws := rfl
@[simp] theorem State.refuse_pending (r : FaultRecord) (s : State) : (s.refuse r).pending = s.pending := rfl

/-! ### setWindow -/

@[simp] theorem State.setWindow_win (w : Fin 8) (f : Window → Window) (s : State) :
    (s.setWindow w f).win = s.win.set w (f s.win[w]) := rfl
@[simp] theorem State.setWindow_hrt (w : Fin 8) (f : Window → Window) (s : State) :
    (s.setWindow w f).hrt = s.hrt := rfl
@[simp] theorem State.setWindow_pwq (w : Fin 8) (f : Window → Window) (s : State) :
    (s.setWindow w f).pwq = s.pwq := rfl
@[simp] theorem State.setWindow_isu (w : Fin 8) (f : Window → Window) (s : State) :
    (s.setWindow w f).isu = s.isu := rfl
@[simp] theorem State.setWindow_ltx (w : Fin 8) (f : Window → Window) (s : State) :
    (s.setWindow w f).ltx = s.ltx := rfl
@[simp] theorem State.setWindow_lrx (w : Fin 8) (f : Window → Window) (s : State) :
    (s.setWindow w f).lrx = s.lrx := rfl
@[simp] theorem State.setWindow_ltc (w : Fin 8) (f : Window → Window) (s : State) :
    (s.setWindow w f).ltc = s.ltc := rfl
@[simp] theorem State.setWindow_evu (w : Fin 8) (f : Window → Window) (s : State) :
    (s.setWindow w f).evu = s.evu := rfl
@[simp] theorem State.setWindow_reg (w : Fin 8) (f : Window → Window) (s : State) :
    (s.setWindow w f).reg = s.reg := rfl
@[simp] theorem State.setWindow_resetN (w : Fin 8) (f : Window → Window) (s : State) :
    (s.setWindow w f).resetN = s.resetN := rfl
@[simp] theorem State.setWindow_answer (w : Fin 8) (f : Window → Window) (s : State) :
    (s.setWindow w f).answer = s.answer := rfl
@[simp] theorem State.setWindow_tx (w : Fin 8) (f : Window → Window) (s : State) : (s.setWindow w f).tx = s.tx := rfl
@[simp] theorem State.setWindow_rxLine (w : Fin 8) (f : Window → Window) (s : State) :
    (s.setWindow w f).rxLine = s.rxLine := rfl
@[simp] theorem State.setWindow_freeDraws (w : Fin 8) (f : Window → Window) (s : State) :
    (s.setWindow w f).freeDraws = s.freeDraws := rfl
@[simp] theorem State.setWindow_pending (w : Fin 8) (f : Window → Window) (s : State) :
    (s.setWindow w f).pending = s.pending := rfl

/-! ### writeRequester -/

@[simp] theorem State.writeRequester_win (r : Fin 8) (l : Level) (n : BitVec 3) (b : Bool) (s : State) :
    (s.writeRequester r l n b).win = s.win := rfl
@[simp] theorem State.writeRequester_hrt (r : Fin 8) (l : Level) (n : BitVec 3) (b : Bool) (s : State) :
    (s.writeRequester r l n b).hrt = s.hrt.setRequester r (Requester.write l n b) := rfl
@[simp] theorem State.writeRequester_pwq (r : Fin 8) (l : Level) (n : BitVec 3) (b : Bool) (s : State) :
    (s.writeRequester r l n b).pwq = s.pwq := rfl
@[simp] theorem State.writeRequester_isu (r : Fin 8) (l : Level) (n : BitVec 3) (b : Bool) (s : State) :
    (s.writeRequester r l n b).isu = s.isu := rfl
@[simp] theorem State.writeRequester_ltx (r : Fin 8) (l : Level) (n : BitVec 3) (b : Bool) (s : State) :
    (s.writeRequester r l n b).ltx = s.ltx := rfl
@[simp] theorem State.writeRequester_lrx (r : Fin 8) (l : Level) (n : BitVec 3) (b : Bool) (s : State) :
    (s.writeRequester r l n b).lrx = s.lrx := rfl
@[simp] theorem State.writeRequester_ltc (r : Fin 8) (l : Level) (n : BitVec 3) (b : Bool) (s : State) :
    (s.writeRequester r l n b).ltc = s.ltc := rfl
@[simp] theorem State.writeRequester_evu (r : Fin 8) (l : Level) (n : BitVec 3) (b : Bool) (s : State) :
    (s.writeRequester r l n b).evu = s.evu := rfl
@[simp] theorem State.writeRequester_reg (r : Fin 8) (l : Level) (n : BitVec 3) (b : Bool) (s : State) :
    (s.writeRequester r l n b).reg = s.reg := rfl
@[simp] theorem State.writeRequester_resetN (r : Fin 8) (l : Level) (n : BitVec 3) (b : Bool) (s : State) :
    (s.writeRequester r l n b).resetN = s.resetN := rfl
@[simp] theorem State.writeRequester_answer (r : Fin 8) (l : Level) (n : BitVec 3) (b : Bool) (s : State) :
    (s.writeRequester r l n b).answer = s.answer := rfl
@[simp] theorem State.writeRequester_tx (r : Fin 8) (l : Level) (n : BitVec 3) (b : Bool) (s : State) :
    (s.writeRequester r l n b).tx = s.tx := rfl
@[simp] theorem State.writeRequester_rxLine (r : Fin 8) (l : Level) (n : BitVec 3) (b : Bool) (s : State) :
    (s.writeRequester r l n b).rxLine = s.rxLine := rfl
@[simp] theorem State.writeRequester_freeDraws (r : Fin 8) (l : Level) (n : BitVec 3) (b : Bool) (s : State) :
    (s.writeRequester r l n b).freeDraws = s.freeDraws := rfl
@[simp] theorem State.writeRequester_pending (r : Fin 8) (l : Level) (n : BitVec 3) (b : Bool) (s : State) :
    (s.writeRequester r l n b).pending = s.pending := rfl

/-! ### clearWrapFlag -/

@[simp] theorem State.clearWrapFlag_win (s : State) : (s.clearWrapFlag).win = s.win := rfl
@[simp] theorem State.clearWrapFlag_hrt (s : State) : (s.clearWrapFlag).hrt = s.hrt := rfl
@[simp] theorem State.clearWrapFlag_pwq (s : State) : (s.clearWrapFlag).pwq = s.pwq := rfl
@[simp] theorem State.clearWrapFlag_isu (s : State) : (s.clearWrapFlag).isu = s.isu := rfl
@[simp] theorem State.clearWrapFlag_ltx (s : State) : (s.clearWrapFlag).ltx = { s.ltx with wrapFlag := false } := rfl
@[simp] theorem State.clearWrapFlag_lrx (s : State) : (s.clearWrapFlag).lrx = s.lrx := rfl
@[simp] theorem State.clearWrapFlag_ltc (s : State) : (s.clearWrapFlag).ltc = s.ltc := rfl
@[simp] theorem State.clearWrapFlag_evu (s : State) : (s.clearWrapFlag).evu = s.evu := rfl
@[simp] theorem State.clearWrapFlag_reg (s : State) : (s.clearWrapFlag).reg = s.reg := rfl
@[simp] theorem State.clearWrapFlag_resetN (s : State) : (s.clearWrapFlag).resetN = s.resetN := rfl
@[simp] theorem State.clearWrapFlag_answer (s : State) : (s.clearWrapFlag).answer = s.answer := rfl
@[simp] theorem State.clearWrapFlag_tx (s : State) : (s.clearWrapFlag).tx = s.tx := rfl
@[simp] theorem State.clearWrapFlag_rxLine (s : State) : (s.clearWrapFlag).rxLine = s.rxLine := rfl
@[simp] theorem State.clearWrapFlag_freeDraws (s : State) : (s.clearWrapFlag).freeDraws = s.freeDraws := rfl
@[simp] theorem State.clearWrapFlag_pending (s : State) : (s.clearWrapFlag).pending = s.pending := rfl

/-! ### freshStart -/

@[simp] theorem State.freshStart_win (s : State) : (s.freshStart).win = s.win := rfl
@[simp] theorem State.freshStart_hrt (s : State) : (s.freshStart).hrt = s.hrt := rfl
@[simp] theorem State.freshStart_pwq (s : State) : (s.freshStart).pwq = s.pwq := rfl
@[simp] theorem State.freshStart_isu (s : State) : (s.freshStart).isu = s.isu := rfl
@[simp] theorem State.freshStart_ltx (s : State) : (s.freshStart).ltx = s.ltx := rfl
@[simp] theorem State.freshStart_lrx (s : State) : (s.freshStart).lrx = s.lrx := rfl
@[simp] theorem State.freshStart_ltc (s : State) : (s.freshStart).ltc = s.ltc.freshStart := rfl
@[simp] theorem State.freshStart_evu (s : State) : (s.freshStart).evu = s.evu := rfl
@[simp] theorem State.freshStart_reg (s : State) : (s.freshStart).reg = s.reg := rfl
@[simp] theorem State.freshStart_resetN (s : State) : (s.freshStart).resetN = s.resetN := rfl
@[simp] theorem State.freshStart_answer (s : State) : (s.freshStart).answer = s.answer := rfl
@[simp] theorem State.freshStart_tx (s : State) : (s.freshStart).tx = s.tx := rfl
@[simp] theorem State.freshStart_rxLine (s : State) : (s.freshStart).rxLine = s.rxLine := rfl
@[simp] theorem State.freshStart_freeDraws (s : State) : (s.freshStart).freeDraws = s.freeDraws := rfl
@[simp] theorem State.freshStart_pending (s : State) : (s.freshStart).pending = s.pending := rfl

/-! ### commandStatus -/

@[simp] theorem State.commandStatus_win (code : BitVec 4) (b : Bool) (s : State) :
    (s.commandStatus code b).win = s.win := rfl
@[simp] theorem State.commandStatus_hrt (code : BitVec 4) (b : Bool) (s : State) :
    (s.commandStatus code b).hrt = s.hrt := rfl
@[simp] theorem State.commandStatus_pwq (code : BitVec 4) (b : Bool) (s : State) :
    (s.commandStatus code b).pwq = s.pwq := rfl
@[simp] theorem State.commandStatus_isu (code : BitVec 4) (b : Bool) (s : State) :
    (s.commandStatus code b).isu = s.isu := rfl
@[simp] theorem State.commandStatus_ltx (code : BitVec 4) (b : Bool) (s : State) :
    (s.commandStatus code b).ltx = s.ltx := rfl
@[simp] theorem State.commandStatus_lrx (code : BitVec 4) (b : Bool) (s : State) :
    (s.commandStatus code b).lrx = s.lrx := rfl
@[simp] theorem State.commandStatus_ltc (code : BitVec 4) (b : Bool) (s : State) :
    (s.commandStatus code b).ltc = { s.ltc with command := some { code := code, accepted := b } } := rfl
@[simp] theorem State.commandStatus_evu (code : BitVec 4) (b : Bool) (s : State) :
    (s.commandStatus code b).evu = s.evu := rfl
@[simp] theorem State.commandStatus_reg (code : BitVec 4) (b : Bool) (s : State) :
    (s.commandStatus code b).reg = s.reg := rfl
@[simp] theorem State.commandStatus_resetN (code : BitVec 4) (b : Bool) (s : State) :
    (s.commandStatus code b).resetN = s.resetN := rfl
@[simp] theorem State.commandStatus_answer (code : BitVec 4) (b : Bool) (s : State) :
    (s.commandStatus code b).answer = s.answer := rfl
@[simp] theorem State.commandStatus_tx (code : BitVec 4) (b : Bool) (s : State) :
    (s.commandStatus code b).tx = s.tx := rfl
@[simp] theorem State.commandStatus_rxLine (code : BitVec 4) (b : Bool) (s : State) :
    (s.commandStatus code b).rxLine = s.rxLine := rfl
@[simp] theorem State.commandStatus_freeDraws (code : BitVec 4) (b : Bool) (s : State) :
    (s.commandStatus code b).freeDraws = s.freeDraws := rfl
@[simp] theorem State.commandStatus_pending (code : BitVec 4) (b : Bool) (s : State) :
    (s.commandStatus code b).pending = s.pending := rfl

/-! ### teardown -/

@[simp] theorem State.teardown_win (s : State) : (s.teardown).win = s.win := by
  dsimp only [State.teardown]
@[simp] theorem State.teardown_hrt (s : State) : (s.teardown).hrt = s.hrt.teardown := by
  dsimp only [State.teardown]
@[simp] theorem State.teardown_pwq (s : State) : (s.teardown).pwq = s.pwq.teardown := by
  dsimp only [State.teardown]
@[simp] theorem State.teardown_isu (s : State) : (s.teardown).isu = s.isu.teardown := by
  dsimp only [State.teardown]
@[simp] theorem State.teardown_ltx (s : State) : (s.teardown).ltx = s.ltx.teardown := by
  dsimp only [State.teardown]
@[simp] theorem State.teardown_lrx (s : State) : (s.teardown).lrx = s.lrx.teardown := by
  dsimp only [State.teardown]
@[simp] theorem State.teardown_ltc (s : State) : (s.teardown).ltc = s.ltc.teardown := by
  dsimp only [State.teardown]
@[simp] theorem State.teardown_evu (s : State) : (s.teardown).evu = s.evu.writesDropped s.pwq.queue.length := by
  dsimp only [State.teardown]
@[simp] theorem State.teardown_reg (s : State) : (s.teardown).reg = s.reg := by
  dsimp only [State.teardown]
@[simp] theorem State.teardown_resetN (s : State) : (s.teardown).resetN = s.resetN := by
  dsimp only [State.teardown]
@[simp] theorem State.teardown_answer (s : State) : (s.teardown).answer = s.answer := by
  dsimp only [State.teardown]
@[simp] theorem State.teardown_tx (s : State) : (s.teardown).tx = s.tx := by
  dsimp only [State.teardown]
@[simp] theorem State.teardown_rxLine (s : State) : (s.teardown).rxLine = s.rxLine := by
  dsimp only [State.teardown]
@[simp] theorem State.teardown_freeDraws (s : State) : (s.teardown).freeDraws = s.freeDraws := by
  dsimp only [State.teardown]
@[simp] theorem State.teardown_pending (s : State) : (s.teardown).pending = s.pending := by
  dsimp only [State.teardown]

/-! ### enterFailed -/

@[simp] theorem State.enterFailed_win (c : LinkFailure) (s : State) : (s.enterFailed c).win = s.win := by
  dsimp only [State.enterFailed, State.teardown, State.raise]
@[simp] theorem State.enterFailed_hrt (c : LinkFailure) (s : State) : (s.enterFailed c).hrt = s.hrt.teardown := by
  dsimp only [State.enterFailed, State.teardown, State.raise]
@[simp] theorem State.enterFailed_pwq (c : LinkFailure) (s : State) : (s.enterFailed c).pwq = s.pwq.teardown := by
  dsimp only [State.enterFailed, State.teardown, State.raise]
@[simp] theorem State.enterFailed_isu (c : LinkFailure) (s : State) : (s.enterFailed c).isu = s.isu.teardown := by
  dsimp only [State.enterFailed, State.teardown, State.raise]
@[simp] theorem State.enterFailed_ltx (c : LinkFailure) (s : State) : (s.enterFailed c).ltx = s.ltx.teardown := by
  dsimp only [State.enterFailed, State.teardown, State.raise]
@[simp] theorem State.enterFailed_lrx (c : LinkFailure) (s : State) : (s.enterFailed c).lrx = s.lrx.teardown := by
  dsimp only [State.enterFailed, State.teardown, State.raise]
@[simp] theorem State.enterFailed_ltc (c : LinkFailure) (s : State) :
    (s.enterFailed c).ltc = { s.ltc.teardown with link := .failed, failure := c, seekTimer := none } := by
  dsimp only [State.enterFailed, State.teardown, State.raise]
@[simp] theorem State.enterFailed_evu (c : LinkFailure) (s : State) :
    (s.enterFailed c).evu = (s.evu.writesDropped s.pwq.queue.length).raise .link := by
  dsimp only [State.enterFailed, State.teardown, State.raise]
@[simp] theorem State.enterFailed_reg (c : LinkFailure) (s : State) : (s.enterFailed c).reg = s.reg := by
  dsimp only [State.enterFailed, State.teardown, State.raise]
@[simp] theorem State.enterFailed_resetN (c : LinkFailure) (s : State) : (s.enterFailed c).resetN = s.resetN := by
  dsimp only [State.enterFailed, State.teardown, State.raise]
@[simp] theorem State.enterFailed_answer (c : LinkFailure) (s : State) : (s.enterFailed c).answer = s.answer := by
  dsimp only [State.enterFailed, State.teardown, State.raise]
@[simp] theorem State.enterFailed_tx (c : LinkFailure) (s : State) : (s.enterFailed c).tx = .idleFill := by
  dsimp only [State.enterFailed, State.teardown, State.raise]
@[simp] theorem State.enterFailed_rxLine (c : LinkFailure) (s : State) : (s.enterFailed c).rxLine = s.rxLine := by
  dsimp only [State.enterFailed, State.teardown, State.raise]
@[simp] theorem State.enterFailed_freeDraws (c : LinkFailure) (s : State) :
    (s.enterFailed c).freeDraws = s.freeDraws := by
  dsimp only [State.enterFailed, State.teardown, State.raise]
@[simp] theorem State.enterFailed_pending (c : LinkFailure) (s : State) : (s.enterFailed c).pending = s.pending := by
  dsimp only [State.enterFailed, State.teardown, State.raise]

/-! ### disable -/

@[simp] theorem State.disable_win (s : State) : (s.disable).win = s.win := by
  dsimp only [State.disable, State.teardown, State.raise]
@[simp] theorem State.disable_hrt (s : State) : (s.disable).hrt = s.hrt.teardown := by
  dsimp only [State.disable, State.teardown, State.raise]
@[simp] theorem State.disable_pwq (s : State) : (s.disable).pwq = s.pwq.teardown := by
  dsimp only [State.disable, State.teardown, State.raise]
@[simp] theorem State.disable_isu (s : State) : (s.disable).isu = s.isu.teardown := by
  dsimp only [State.disable, State.teardown, State.raise]
@[simp] theorem State.disable_ltx (s : State) : (s.disable).ltx = s.ltx.teardown := by
  dsimp only [State.disable, State.teardown, State.raise]
@[simp] theorem State.disable_lrx (s : State) : (s.disable).lrx = s.lrx.teardown := by
  dsimp only [State.disable, State.teardown, State.raise]
@[simp] theorem State.disable_ltc (s : State) :
    (s.disable).ltc = { s.ltc.teardown with link := .off, seekTimer := none } := by
  dsimp only [State.disable, State.teardown, State.raise]
@[simp] theorem State.disable_evu (s : State) :
    (s.disable).evu = (s.evu.writesDropped s.pwq.queue.length).raise .link := by
  dsimp only [State.disable, State.teardown, State.raise]
@[simp] theorem State.disable_reg (s : State) : (s.disable).reg = s.reg := by
  dsimp only [State.disable, State.teardown, State.raise]
@[simp] theorem State.disable_resetN (s : State) : (s.disable).resetN = s.resetN := by
  dsimp only [State.disable, State.teardown, State.raise]
@[simp] theorem State.disable_answer (s : State) : (s.disable).answer = s.answer := by
  dsimp only [State.disable, State.teardown, State.raise]
@[simp] theorem State.disable_tx (s : State) : (s.disable).tx = .idleFill := by
  dsimp only [State.disable, State.teardown, State.raise]
@[simp] theorem State.disable_rxLine (s : State) : (s.disable).rxLine = s.rxLine := by
  dsimp only [State.disable, State.teardown, State.raise]
@[simp] theorem State.disable_freeDraws (s : State) : (s.disable).freeDraws = s.freeDraws := by
  dsimp only [State.disable, State.teardown, State.raise]
@[simp] theorem State.disable_pending (s : State) : (s.disable).pending = s.pending := by
  dsimp only [State.disable, State.teardown, State.raise]

/-! ### enterExchange -/

@[simp] theorem State.enterExchange_win (s : State) : (s.enterExchange).win = s.win := rfl
@[simp] theorem State.enterExchange_hrt (s : State) : (s.enterExchange).hrt = s.hrt := rfl
@[simp] theorem State.enterExchange_pwq (s : State) : (s.enterExchange).pwq = s.pwq := rfl
@[simp] theorem State.enterExchange_isu (s : State) : (s.enterExchange).isu = s.isu := rfl
@[simp] theorem State.enterExchange_ltx (s : State) : (s.enterExchange).ltx = s.ltx := rfl
@[simp] theorem State.enterExchange_lrx (s : State) : (s.enterExchange).lrx = s.lrx := rfl
@[simp] theorem State.enterExchange_ltc (s : State) :
    (s.enterExchange).ltc = { s.ltc with link := .exchange, alignTimer := none } := rfl
@[simp] theorem State.enterExchange_evu (s : State) : (s.enterExchange).evu = s.evu := rfl
@[simp] theorem State.enterExchange_reg (s : State) : (s.enterExchange).reg = s.reg := rfl
@[simp] theorem State.enterExchange_resetN (s : State) : (s.enterExchange).resetN = s.resetN := rfl
@[simp] theorem State.enterExchange_answer (s : State) : (s.enterExchange).answer = s.answer := rfl
@[simp] theorem State.enterExchange_tx (s : State) : (s.enterExchange).tx = s.tx := rfl
@[simp] theorem State.enterExchange_rxLine (s : State) : (s.enterExchange).rxLine = s.rxLine := rfl
@[simp] theorem State.enterExchange_freeDraws (s : State) : (s.enterExchange).freeDraws = s.freeDraws := rfl
@[simp] theorem State.enterExchange_pending (s : State) : (s.enterExchange).pending = s.pending := rfl

/-! ### enterAlign -/

@[simp] theorem State.enterAlign_win (s : State) : (s.enterAlign).win = s.win := rfl
@[simp] theorem State.enterAlign_hrt (s : State) : (s.enterAlign).hrt = s.hrt := rfl
@[simp] theorem State.enterAlign_pwq (s : State) : (s.enterAlign).pwq = s.pwq := rfl
@[simp] theorem State.enterAlign_isu (s : State) : (s.enterAlign).isu = s.isu := rfl
@[simp] theorem State.enterAlign_ltx (s : State) : (s.enterAlign).ltx = { s.ltx with alignIndex := 0 } := rfl
@[simp] theorem State.enterAlign_lrx (s : State) : (s.enterAlign).lrx = s.lrx := rfl
@[simp] theorem State.enterAlign_ltc (s : State) :
    (s.enterAlign).ltc = { s.ltc with
        link := .align
        alRun := none
        alignTimer := if s.ltc.lockBypass then some s.ltc.alignCount.toNat else none } := rfl
@[simp] theorem State.enterAlign_evu (s : State) : (s.enterAlign).evu = s.evu := rfl
@[simp] theorem State.enterAlign_reg (s : State) : (s.enterAlign).reg = s.reg := rfl
@[simp] theorem State.enterAlign_resetN (s : State) : (s.enterAlign).resetN = s.resetN := rfl
@[simp] theorem State.enterAlign_answer (s : State) : (s.enterAlign).answer = s.answer := rfl
@[simp] theorem State.enterAlign_tx (s : State) : (s.enterAlign).tx = s.tx := rfl
@[simp] theorem State.enterAlign_rxLine (s : State) : (s.enterAlign).rxLine = s.rxLine := rfl
@[simp] theorem State.enterAlign_freeDraws (s : State) : (s.enterAlign).freeDraws = s.freeDraws := rfl
@[simp] theorem State.enterAlign_pending (s : State) : (s.enterAlign).pending = s.pending := rfl

/-! ### startSession -/

@[simp] theorem State.startSession_win (n : BitVec 4) (q w : Nat) (s : State) :
    (s.startSession n q w).win = s.win := rfl
@[simp] theorem State.startSession_hrt (n : BitVec 4) (q w : Nat) (s : State) :
    (s.startSession n q w).hrt = s.hrt := rfl
@[simp] theorem State.startSession_pwq (n : BitVec 4) (q w : Nat) (s : State) :
    (s.startSession n q w).pwq = s.pwq := rfl
@[simp] theorem State.startSession_isu (n : BitVec 4) (q w : Nat) (s : State) :
    (s.startSession n q w).isu = s.isu.sessionStart q w := rfl
@[simp] theorem State.startSession_ltx (n : BitVec 4) (q w : Nat) (s : State) :
    (s.startSession n q w).ltx = s.ltx.sessionStart := rfl
@[simp] theorem State.startSession_lrx (n : BitVec 4) (q w : Nat) (s : State) :
    (s.startSession n q w).lrx = { s.lrx with expected := 0 }.enterActive := rfl
@[simp] theorem State.startSession_ltc (n : BitVec 4) (q w : Nat) (s : State) :
    (s.startSession n q w).ltc = { s.ltc with partnerSession := n, requestOffer := q, writeOffer := w }.enterActive := rfl
@[simp] theorem State.startSession_evu (n : BitVec 4) (q w : Nat) (s : State) :
    (s.startSession n q w).evu = s.evu.raise .link := rfl
@[simp] theorem State.startSession_reg (n : BitVec 4) (q w : Nat) (s : State) :
    (s.startSession n q w).reg = s.reg := rfl
@[simp] theorem State.startSession_resetN (n : BitVec 4) (q w : Nat) (s : State) :
    (s.startSession n q w).resetN = s.resetN := rfl
@[simp] theorem State.startSession_answer (n : BitVec 4) (q w : Nat) (s : State) :
    (s.startSession n q w).answer = s.answer := rfl
@[simp] theorem State.startSession_tx (n : BitVec 4) (q w : Nat) (s : State) : (s.startSession n q w).tx = s.tx := rfl
@[simp] theorem State.startSession_rxLine (n : BitVec 4) (q w : Nat) (s : State) :
    (s.startSession n q w).rxLine = s.rxLine := rfl
@[simp] theorem State.startSession_freeDraws (n : BitVec 4) (q w : Nat) (s : State) :
    (s.startSession n q w).freeDraws = s.freeDraws := rfl
@[simp] theorem State.startSession_pending (n : BitVec 4) (q w : Nat) (s : State) :
    (s.startSession n q w).pending = s.pending := rfl

/-! ### resumeSession -/

@[simp] theorem State.resumeSession_win (s : State) : (s.resumeSession).win = s.win := rfl
@[simp] theorem State.resumeSession_hrt (s : State) : (s.resumeSession).hrt = s.hrt := rfl
@[simp] theorem State.resumeSession_pwq (s : State) : (s.resumeSession).pwq = s.pwq := rfl
@[simp] theorem State.resumeSession_isu (s : State) : (s.resumeSession).isu = s.isu := rfl
@[simp] theorem State.resumeSession_ltx (s : State) : (s.resumeSession).ltx = s.ltx.returnToActive := rfl
@[simp] theorem State.resumeSession_lrx (s : State) : (s.resumeSession).lrx = s.lrx.enterActive := rfl
@[simp] theorem State.resumeSession_ltc (s : State) : (s.resumeSession).ltc = s.ltc.enterActive := rfl
@[simp] theorem State.resumeSession_evu (s : State) : (s.resumeSession).evu = s.evu.raise .link := rfl
@[simp] theorem State.resumeSession_reg (s : State) : (s.resumeSession).reg = s.reg := rfl
@[simp] theorem State.resumeSession_resetN (s : State) : (s.resumeSession).resetN = s.resetN := rfl
@[simp] theorem State.resumeSession_answer (s : State) : (s.resumeSession).answer = s.answer := rfl
@[simp] theorem State.resumeSession_tx (s : State) : (s.resumeSession).tx = s.tx := rfl
@[simp] theorem State.resumeSession_rxLine (s : State) : (s.resumeSession).rxLine = s.rxLine := rfl
@[simp] theorem State.resumeSession_freeDraws (s : State) : (s.resumeSession).freeDraws = s.freeDraws := rfl
@[simp] theorem State.resumeSession_pending (s : State) : (s.resumeSession).pending = s.pending := rfl

/-! ### goodFrame -/

@[simp] theorem State.goodFrame_win (s : State) : (s.goodFrame).win = s.win := rfl
@[simp] theorem State.goodFrame_hrt (s : State) : (s.goodFrame).hrt = s.hrt := rfl
@[simp] theorem State.goodFrame_pwq (s : State) : (s.goodFrame).pwq = s.pwq := rfl
@[simp] theorem State.goodFrame_isu (s : State) : (s.goodFrame).isu = s.isu := rfl
@[simp] theorem State.goodFrame_ltx (s : State) : (s.goodFrame).ltx = s.ltx := rfl
@[simp] theorem State.goodFrame_lrx (s : State) : (s.goodFrame).lrx = { s.lrx with lineLossRun := 0 } := rfl
@[simp] theorem State.goodFrame_ltc (s : State) : (s.goodFrame).ltc = s.ltc := rfl
@[simp] theorem State.goodFrame_evu (s : State) : (s.goodFrame).evu = s.evu := rfl
@[simp] theorem State.goodFrame_reg (s : State) : (s.goodFrame).reg = s.reg := rfl
@[simp] theorem State.goodFrame_resetN (s : State) : (s.goodFrame).resetN = s.resetN := rfl
@[simp] theorem State.goodFrame_answer (s : State) : (s.goodFrame).answer = s.answer := rfl
@[simp] theorem State.goodFrame_tx (s : State) : (s.goodFrame).tx = s.tx := rfl
@[simp] theorem State.goodFrame_rxLine (s : State) : (s.goodFrame).rxLine = s.rxLine := rfl
@[simp] theorem State.goodFrame_freeDraws (s : State) : (s.goodFrame).freeDraws = s.freeDraws := rfl
@[simp] theorem State.goodFrame_pending (s : State) : (s.goodFrame).pending = s.pending := rfl

/-! ### ackDue -/

@[simp] theorem State.ackDue_win (s : State) : (s.ackDue).win = s.win := rfl
@[simp] theorem State.ackDue_hrt (s : State) : (s.ackDue).hrt = s.hrt := rfl
@[simp] theorem State.ackDue_pwq (s : State) : (s.ackDue).pwq = s.pwq := rfl
@[simp] theorem State.ackDue_isu (s : State) : (s.ackDue).isu = s.isu := rfl
@[simp] theorem State.ackDue_ltx (s : State) : (s.ackDue).ltx = { s.ltx with akDue := true } := rfl
@[simp] theorem State.ackDue_lrx (s : State) : (s.ackDue).lrx = s.lrx := rfl
@[simp] theorem State.ackDue_ltc (s : State) : (s.ackDue).ltc = s.ltc := rfl
@[simp] theorem State.ackDue_evu (s : State) : (s.ackDue).evu = s.evu := rfl
@[simp] theorem State.ackDue_reg (s : State) : (s.ackDue).reg = s.reg := rfl
@[simp] theorem State.ackDue_resetN (s : State) : (s.ackDue).resetN = s.resetN := rfl
@[simp] theorem State.ackDue_answer (s : State) : (s.ackDue).answer = s.answer := rfl
@[simp] theorem State.ackDue_tx (s : State) : (s.ackDue).tx = s.tx := rfl
@[simp] theorem State.ackDue_rxLine (s : State) : (s.ackDue).rxLine = s.rxLine := rfl
@[simp] theorem State.ackDue_freeDraws (s : State) : (s.ackDue).freeDraws = s.freeDraws := rfl
@[simp] theorem State.ackDue_pending (s : State) : (s.ackDue).pending = s.pending := rfl

/-! ### delivered -/

@[simp] theorem State.delivered_win (s : State) : (s.delivered).win = s.win := rfl
@[simp] theorem State.delivered_hrt (s : State) : (s.delivered).hrt = s.hrt := rfl
@[simp] theorem State.delivered_pwq (s : State) : (s.delivered).pwq = s.pwq := rfl
@[simp] theorem State.delivered_isu (s : State) : (s.delivered).isu = s.isu := rfl
@[simp] theorem State.delivered_ltx (s : State) :
    (s.delivered).ltx = { s.ltx with akDue := s.ltx.akDue || decide (s.lrx.ackCount.toNat ≤ s.lrx.deliver.coalescing) } := rfl
@[simp] theorem State.delivered_lrx (s : State) : (s.delivered).lrx = s.lrx.deliver := rfl
@[simp] theorem State.delivered_ltc (s : State) : (s.delivered).ltc = s.ltc := rfl
@[simp] theorem State.delivered_evu (s : State) : (s.delivered).evu = s.evu := rfl
@[simp] theorem State.delivered_reg (s : State) : (s.delivered).reg = s.reg := rfl
@[simp] theorem State.delivered_resetN (s : State) : (s.delivered).resetN = s.resetN := rfl
@[simp] theorem State.delivered_answer (s : State) : (s.delivered).answer = s.answer := rfl
@[simp] theorem State.delivered_tx (s : State) : (s.delivered).tx = s.tx := rfl
@[simp] theorem State.delivered_rxLine (s : State) : (s.delivered).rxLine = s.rxLine := rfl
@[simp] theorem State.delivered_freeDraws (s : State) : (s.delivered).freeDraws = s.freeDraws := rfl
@[simp] theorem State.delivered_pending (s : State) : (s.delivered).pending = s.pending := rfl

/-! ### sendNew -/

@[simp] theorem State.sendNew_win (bytes : List Byte) (s : State) : (s.sendNew bytes).win = s.win := rfl
@[simp] theorem State.sendNew_hrt (bytes : List Byte) (s : State) : (s.sendNew bytes).hrt = s.hrt := rfl
@[simp] theorem State.sendNew_pwq (bytes : List Byte) (s : State) : (s.sendNew bytes).pwq = s.pwq := rfl
@[simp] theorem State.sendNew_isu (bytes : List Byte) (s : State) : (s.sendNew bytes).isu = s.isu := rfl
@[simp] theorem State.sendNew_ltx (bytes : List Byte) (s : State) : (s.sendNew bytes).ltx = s.ltx.takeIn bytes := rfl
@[simp] theorem State.sendNew_lrx (bytes : List Byte) (s : State) : (s.sendNew bytes).lrx = s.lrx := rfl
@[simp] theorem State.sendNew_ltc (bytes : List Byte) (s : State) : (s.sendNew bytes).ltc = s.ltc := rfl
@[simp] theorem State.sendNew_evu (bytes : List Byte) (s : State) : (s.sendNew bytes).evu = s.evu := rfl
@[simp] theorem State.sendNew_reg (bytes : List Byte) (s : State) : (s.sendNew bytes).reg = s.reg := rfl
@[simp] theorem State.sendNew_resetN (bytes : List Byte) (s : State) : (s.sendNew bytes).resetN = s.resetN := rfl
@[simp] theorem State.sendNew_answer (bytes : List Byte) (s : State) : (s.sendNew bytes).answer = s.answer := rfl
@[simp] theorem State.sendNew_tx (bytes : List Byte) (s : State) : (s.sendNew bytes).tx = .frame bytes := rfl
@[simp] theorem State.sendNew_rxLine (bytes : List Byte) (s : State) : (s.sendNew bytes).rxLine = s.rxLine := rfl
@[simp] theorem State.sendNew_freeDraws (bytes : List Byte) (s : State) :
    (s.sendNew bytes).freeDraws = s.freeDraws := rfl
@[simp] theorem State.sendNew_pending (bytes : List Byte) (s : State) : (s.sendNew bytes).pending = s.pending := rfl

/-! ### functionReset -/

@[simp] theorem State.functionReset_win (s : State) : (s.functionReset).win = s.win := rfl
@[simp] theorem State.functionReset_hrt (s : State) : (s.functionReset).hrt = s.hrt.functionReset := rfl
@[simp] theorem State.functionReset_pwq (s : State) : (s.functionReset).pwq = Pwq.reset := rfl
@[simp] theorem State.functionReset_isu (s : State) : (s.functionReset).isu = s.isu.functionReset := rfl
@[simp] theorem State.functionReset_ltx (s : State) : (s.functionReset).ltx = s.ltx.functionReset := rfl
@[simp] theorem State.functionReset_lrx (s : State) : (s.functionReset).lrx = s.lrx.functionReset := rfl
@[simp] theorem State.functionReset_ltc (s : State) : (s.functionReset).ltc = s.ltc.functionReset := rfl
@[simp] theorem State.functionReset_evu (s : State) : (s.functionReset).evu = s.evu.functionReset := rfl
@[simp] theorem State.functionReset_reg (s : State) :
    (s.functionReset).reg = { s.reg with intakeHold := false } := rfl
@[simp] theorem State.functionReset_resetN (s : State) : (s.functionReset).resetN = s.resetN := rfl
@[simp] theorem State.functionReset_answer (s : State) : (s.functionReset).answer = s.answer := rfl
@[simp] theorem State.functionReset_tx (s : State) : (s.functionReset).tx = .idleFill := rfl
@[simp] theorem State.functionReset_rxLine (s : State) : (s.functionReset).rxLine = s.rxLine := rfl
@[simp] theorem State.functionReset_freeDraws (s : State) : (s.functionReset).freeDraws = s.freeDraws := rfl
@[simp] theorem State.functionReset_pending (s : State) : (s.functionReset).pending = s.pending := rfl

/-! ### heldInReset -/

@[simp] theorem State.heldInReset_win (s : State) : (s.heldInReset).win = Vector.replicate 8 Window.reset := rfl
@[simp] theorem State.heldInReset_hrt (s : State) : (s.heldInReset).hrt = Hrt.reset := rfl
@[simp] theorem State.heldInReset_pwq (s : State) : (s.heldInReset).pwq = Pwq.reset := rfl
@[simp] theorem State.heldInReset_isu (s : State) : (s.heldInReset).isu = Isu.reset := rfl
@[simp] theorem State.heldInReset_ltx (s : State) : (s.heldInReset).ltx = Ltx.reset := rfl
@[simp] theorem State.heldInReset_lrx (s : State) : (s.heldInReset).lrx = Lrx.reset := rfl
@[simp] theorem State.heldInReset_ltc (s : State) : (s.heldInReset).ltc = Ltc.reset := rfl
@[simp] theorem State.heldInReset_evu (s : State) : (s.heldInReset).evu = Evu.reset := rfl
@[simp] theorem State.heldInReset_reg (s : State) : (s.heldInReset).reg = Reg.reset := rfl
@[simp] theorem State.heldInReset_resetN (s : State) : (s.heldInReset).resetN = false := rfl
@[simp] theorem State.heldInReset_answer (s : State) : (s.heldInReset).answer = none := rfl
@[simp] theorem State.heldInReset_tx (s : State) : (s.heldInReset).tx = .idleFill := rfl
@[simp] theorem State.heldInReset_rxLine (s : State) : (s.heldInReset).rxLine = s.rxLine := rfl
@[simp] theorem State.heldInReset_freeDraws (s : State) : (s.heldInReset).freeDraws = s.freeDraws := rfl
@[simp] theorem State.heldInReset_pending (s : State) : (s.heldInReset).pending = s.pending := rfl

/-! ### countTick -/

@[simp] theorem State.countTick_win (s : State) : (s.countTick).win = s.win := by
  dsimp only [State.countTick]
@[simp] theorem State.countTick_hrt (s : State) : (s.countTick).hrt = s.hrt.tick := by
  dsimp only [State.countTick]
@[simp] theorem State.countTick_pwq (s : State) : (s.countTick).pwq = s.pwq := by
  dsimp only [State.countTick]
@[simp] theorem State.countTick_isu (s : State) : (s.countTick).isu = s.isu := by
  dsimp only [State.countTick]
@[simp] theorem State.countTick_ltx (s : State) :
    (s.countTick).ltx = { s.ltx with replayTimer := tickTimer s.ltx.replayTimer } := by
  dsimp only [State.countTick]
@[simp] theorem State.countTick_lrx (s : State) :
    (s.countTick).lrx = { s.lrx with ackDelayTimer := tickTimer s.lrx.ackDelayTimer } := by
  dsimp only [State.countTick]
@[simp] theorem State.countTick_ltc (s : State) :
    (s.countTick).ltc = { s.ltc with seekTimer := tickTimer s.ltc.seekTimer, alignTimer := tickTimer s.ltc.alignTimer } := by
  dsimp only [State.countTick]
@[simp] theorem State.countTick_evu (s : State) : (s.countTick).evu = s.evu := by
  dsimp only [State.countTick]
@[simp] theorem State.countTick_reg (s : State) : (s.countTick).reg = s.reg := by
  dsimp only [State.countTick]
@[simp] theorem State.countTick_resetN (s : State) : (s.countTick).resetN = s.resetN := by
  dsimp only [State.countTick]
@[simp] theorem State.countTick_answer (s : State) : (s.countTick).answer = s.answer := by
  dsimp only [State.countTick]
@[simp] theorem State.countTick_tx (s : State) : (s.countTick).tx = s.tx := by
  dsimp only [State.countTick]
@[simp] theorem State.countTick_rxLine (s : State) : (s.countTick).rxLine = s.rxLine := by
  dsimp only [State.countTick]
@[simp] theorem State.countTick_freeDraws (s : State) : (s.countTick).freeDraws = s.freeDraws := by
  dsimp only [State.countTick]
@[simp] theorem State.countTick_pending (s : State) : (s.countTick).pending = s.pending := by
  dsimp only [State.countTick]

end Sys2Proof.Machine
end

