-- ==== Sys2Proof/Laws/Ops.lean ====
section
/-! SUPPORT. What each shared operation can do, said once: the wrappers of the meanings, raises and reports, requests to
LTC, acknowledgement, replay, the receive side, and the link commands. -/

namespace Sys2Proof.Machine

/-! ### The wrappers -/

theorem State.powered_high {s : State} (h : s.resetN = true) (f : State → State) : s.powered f = .next (f s) := by
  rw [State.powered, if_pos h]

theorem State.powered_low {s : State} (h : s.resetN = false) (f : State → State) : s.powered f = .next s := by
  rw [State.powered, h]; rfl

theorem State.hostTransfer_high {s : State} (h : s.resetN = true) (f : State → State) :
    s.hostTransfer f = .next (f s) := by
  rw [State.hostTransfer, if_pos h]

theorem State.hostTransfer_low {s : State} (h : s.resetN = false) (f : State → State) :
    s.hostTransfer f = .next (s.answered .fault) := by
  rw [State.hostTransfer, h]; rfl

theorem State.takenWrite_high {s : State} (h : s.resetN = true) (f : State → State) :
    s.takenWrite f = .next ((f s).answered (.done [])) :=
  State.hostTransfer_high h _

theorem State.takenWrite_low {s : State} (h : s.resetN = false) (f : State → State) :
    s.takenWrite f = .next (s.answered .fault) :=
  State.hostTransfer_low h _

/-- A wrapped meaning always answers a next state: its effect, or the state as it stood. -/
theorem State.powered_next (s : State) (f : State → State) : ∃ t, s.powered f = .next t ∧ (t = f s ∨ t = s) := by
  unfold State.powered
  split
  · exact ⟨_, rfl, .inl rfl⟩
  · exact ⟨_, rfl, .inr rfl⟩

theorem State.hostTransfer_next (s : State) (f : State → State) :
    ∃ t, s.hostTransfer f = .next t ∧ (t = f s ∨ t = s.answered .fault) := by
  unfold State.hostTransfer
  split
  · exact ⟨_, rfl, .inl rfl⟩
  · exact ⟨_, rfl, .inr rfl⟩

/-! ### Raises and reports -/

theorem Evu.report_empty {e : Evu} (h : e.fault = none) (r : FaultRecord) :
    e.report r = { e with fault := some r }.raise .fault := by
  simp only [Evu.report, h]

theorem Evu.report_filled {e : Evu} {q : FaultRecord} (h : e.fault = some q) (r : FaultRecord) :
    e.report r = { e with laterCount := min 255 (e.laterCount + 1) } := by
  simp only [Evu.report, h]

theorem Evu.writesDropped_zero (e : Evu) : e.writesDropped 0 = e := rfl

theorem Evu.writesDropped_pos {n : Nat} (h : n ≠ 0) (e : Evu) :
    e.writesDropped n = (e.raise .writesLost).report { kind := .writesLost, detail := some (detailOf n) } := by
  rw [Evu.writesDropped, if_neg h]

/-! ### Requests to LTC -/

theorem State.retrain_active {s : State} (h : s.ltc.link = .active) (reason : RetrainReason) :
    s.retrain reason = { s with ltc := s.ltc.retrain reason, ltx := s.ltx.leaveActive, lrx := s.lrx.leaveActive } := by
  rw [State.retrain, if_pos h]

theorem State.retrain_ignored {s : State} (h : s.ltc.link ≠ .active) (reason : RetrainReason) :
    s.retrain reason = s := by
  rw [State.retrain, if_neg h]

theorem State.failRequest_active {s : State} (h : s.ltc.link = .active) :
    s.failRequest = s.enterFailed .replayExhausted := by
  rw [State.failRequest, if_pos h]

theorem State.failRequest_ignored {s : State} (h : s.ltc.link ≠ .active) : s.failRequest = s := by
  rw [State.failRequest, if_neg h]

/-! ### Acknowledgement and replay -/

theorem Ltx.ackClass_progress {x : Ltx} {n : BitVec 7} (h : ∃ f ∈ x.buffer, f.number = n) :
    x.ackClass n = .progress := by
  have : (x.buffer.any fun f => f.number == n) = true := by simpa using h
  rw [Ltx.ackClass, if_pos this]

theorem Ltx.ackClass_stale {x : Ltx} {n : BitVec 7} (h : ∀ f ∈ x.buffer, f.number ≠ n)
    (hn : n = x.oldest.getD x.next - 1) : x.ackClass n = .stale := by
  have : ¬ (x.buffer.any fun f => f.number == n) = true := by simpa using h
  rw [Ltx.ackClass, if_neg this, if_pos hn]

theorem Ltx.ackClass_outOfRange {x : Ltx} {n : BitVec 7} (h : ∀ f ∈ x.buffer, f.number ≠ n)
    (hn : n ≠ x.oldest.getD x.next - 1) : x.ackClass n = .outOfRange := by
  have : ¬ (x.buffer.any fun f => f.number == n) = true := by simpa using h
  rw [Ltx.ackClass, if_neg this, if_neg hn]

/-- An acknowledged number does one of three things. -/
theorem State.acknowledge_cases (n : BitVec 7) (s : State) :
    (s.ltx.ackClass n = .progress ∧ s.acknowledge n = { s with ltx := s.ltx.progress n }) ∨
      (s.ltx.ackClass n = .stale ∧ s.acknowledge n = s) ∨
      (s.ltx.ackClass n = .outOfRange ∧
        s.acknowledge n = s.report { kind := .ackRange, detail := some (detailOf n.toNat) }) := by
  unfold State.acknowledge
  cases h : s.ltx.ackClass n
  · exact .inl ⟨rfl, rfl⟩
  · exact .inr (.inl ⟨rfl, rfl⟩)
  · exact .inr (.inr ⟨rfl, rfl⟩)

/-- A replay that is due starts a pass, or is a long retry. -/
theorem State.replayDue_cases (s : State) :
    (s.ltx.shortRetry < s.ltx.shortLimit.toNat ∧
        s.replayDue = { s with ltx := { s.ltx with shortRetry := s.ltx.shortRetry + 1 }.startPass }) ∨
      (s.ltx.shortLimit.toNat ≤ s.ltx.shortRetry ∧ s.replayDue = s.longRetryDue) := by
  unfold State.replayDue
  by_cases h : s.ltx.shortRetry < s.ltx.shortLimit.toNat
  · exact .inl ⟨h, if_pos h⟩
  · exact .inr ⟨Nat.le_of_not_lt h, if_neg h⟩

/-- A long retry asks LTC for a retrain, or to fail. -/
theorem State.longRetryDue_cases (s : State) :
    (s.ltx.longRetry < s.ltx.longLimit.toNat ∧
        s.longRetryDue =
          ({ s with ltx := { s.ltx with longRetry := s.ltx.longRetry + 1 } }.raise .lretry).retrain .replay) ∨
      (s.ltx.longLimit.toNat ≤ s.ltx.longRetry ∧ s.longRetryDue = s.failRequest) := by
  unfold State.longRetryDue
  by_cases h : s.ltx.longRetry < s.ltx.longLimit.toNat
  · exact .inl ⟨h, if_pos h⟩
  · exact .inr ⟨Nat.le_of_not_lt h, if_neg h⟩

/-! ### The receive side -/

theorem State.badFrame_open {s : State} (h : s.lrx.nakOpen = true) : s.badFrame = s := by
  rw [State.badFrame, if_pos h]

theorem State.badFrame_closed {s : State} (h : s.lrx.nakOpen = false) :
    s.badFrame =
      { s with lrx := { s.lrx with nakOpen := true }, ltx := { s.ltx with nkDue := some s.lrx.lastGood } } := by
  rw [State.badFrame, h]; rfl

theorem State.accepted_active {s : State} (h : s.ltc.link = .active) (f g : State → State) :
    s.accepted f g = f s.goodFrame := by
  rw [State.accepted, if_pos h]

theorem State.accepted_training {s : State} (h : s.ltc.link ≠ .active) (f g : State → State) :
    s.accepted f g = g s := by
  rw [State.accepted, if_neg h]

/-- The sequence check delivers, makes an AK due, or finds a bad frame. -/
theorem State.sequenced_cases (n : BitVec 7) (owner : State → State) (s : State) :
    (n = s.lrx.expected ∧ s.sequenced n owner = owner s.delivered) ∨
      (n ≠ s.lrx.expected ∧ 64 ≤ (n - s.lrx.expected).toNat ∧ s.sequenced n owner = s.ackDue) ∨
      (n ≠ s.lrx.expected ∧ (n - s.lrx.expected).toNat < 64 ∧ s.sequenced n owner = s.badFrame) := by
  unfold State.sequenced
  by_cases h : n = s.lrx.expected
  · exact .inl ⟨h, if_pos h⟩
  · by_cases g : 64 ≤ (n - s.lrx.expected).toNat
    · exact .inr (.inl ⟨h, g, by rw [if_neg h, if_pos g]⟩)
    · exact .inr (.inr ⟨h, Nat.lt_of_not_le g, by rw [if_neg h, if_neg g]⟩)

/-! ### Link commands -/

theorem State.linkCommand_zero (s : State) : s.linkCommand 0 = s := rfl

theorem State.linkCommand_accepted {s t : State} {code : BitVec 4} (h : code ≠ 0)
    (ht : s.commandEffect code = some t) : s.linkCommand code = t.commandStatus code true := by
  simp only [State.linkCommand, if_neg h, ht]

theorem State.linkCommand_refused {s : State} {code : BitVec 4} (h : code ≠ 0)
    (ht : s.commandEffect code = none) : s.linkCommand code = s.commandStatus code false := by
  simp only [State.linkCommand, if_neg h, ht]

end Sys2Proof.Machine
end

