-- ==== Sys2Proof/Laws/Exec.lean ====
section
/-! SUPPORT. What the dispatch and the clock do: `exec` of each command is its meaning, the wrappers of the meanings answer
a next state, and the order of simultaneous expiries is a permutation of them. -/

namespace Sys2Proof.Machine

@[simp] theorem exec_apertureTransfer (requester : Fin 8) (direction : Direction) (offset : BitVec 28) (size : Nat) (data : List Byte) (s : State) :
    exec (.apertureTransfer requester direction offset size data) s = execApertureTransfer requester direction offset size data s := rfl
@[simp] theorem exec_registerWrite (requester : Fin 8) (offset : BitVec 12) (size : Nat) (value : Word) (s : State) :
    exec (.registerWrite requester offset size value) s = execRegisterWrite requester offset size value s := rfl
@[simp] theorem exec_functionReset (s : State) : exec .functionReset s = execFunctionReset s := rfl
@[simp] theorem exec_enable (s : State) : exec .enable s = execEnable s := rfl
@[simp] theorem exec_restart (s : State) : exec .restart s = execRestart s := rfl
@[simp] theorem exec_retrain (s : State) : exec .retrain s = execRetrain s := rfl
@[simp] theorem exec_disable (s : State) : exec .disable s = execDisable s := rfl
@[simp] theorem exec_unassignedLinkCommand (code : BitVec 4) (s : State) :
    exec (.unassignedLinkCommand code) s = execUnassignedLinkCommand code s := rfl
@[simp] theorem exec_clearLapse (requester : Fin 8) (level : Level) (limit : BitVec 3) (s : State) :
    exec (.clearLapse requester level limit) s = execClearLapse requester level limit s := rfl
@[simp] theorem exec_clearWrapFlag (s : State) : exec .clearWrapFlag s = execClearWrapFlag s := rfl
@[simp] theorem exec_clearRemoteSource (marks : BitVec 16) (s : State) :
    exec (.clearRemoteSource marks) s = execClearRemoteSource marks s := rfl
@[simp] theorem exec_clearLocalCause (marks : BitVec 8) (s : State) :
    exec (.clearLocalCause marks) s = execClearLocalCause marks s := rfl
@[simp] theorem exec_faultRecordClear (s : State) : exec .faultRecordClear s = execFaultRecordClear s := rfl
@[simp] theorem exec_chipReset (s : State) : exec .chipReset s = execChipReset s := rfl
@[simp] theorem exec_chipResetRelease (s : State) : exec .chipResetRelease s = execChipResetRelease s := rfl
@[simp] theorem exec_cpReceived (number : BitVec 7) (tag : Fin 32) (status : CpStatus) (data : List Byte) (s : State) :
    exec (.cpReceived number tag status data) s = execCpReceived number tag status data s := rfl
@[simp] theorem exec_evReceived (number : BitVec 7) (kind : BitVec 4) (body : Vector Byte 7) (s : State) :
    exec (.evReceived number kind body) s = execEvReceived number kind body s := rfl
@[simp] theorem exec_akReceived (number : BitVec 7) (s : State) :
    exec (.akReceived number) s = execAkReceived number s := rfl
@[simp] theorem exec_nkReceived (number : BitVec 7) (s : State) :
    exec (.nkReceived number) s = execNkReceived number s := rfl
@[simp] theorem exec_crReceived (total : BitVec 8) (s : State) :
    exec (.crReceived total) s = execCrReceived total s := rfl
@[simp] theorem exec_skReceived (grade : Grade) (s : State) : exec (.skReceived grade) s = execSkReceived grade s := rfl
@[simp] theorem exec_alReceived (index : BitVec 8) (s : State) :
    exec (.alReceived index) s = execAlReceived index s := rfl
@[simp] theorem exec_pmReceived (session : BitVec 4) (grade : Grade) (requestOffer : BitVec 8) (writeOffer : BitVec 8) (s : State) :
    exec (.pmReceived session grade requestOffer writeOffer) s = execPmReceived session grade requestOffer writeOffer s := rfl
@[simp] theorem exec_corruptFrameReceived (s : State) : exec .corruptFrameReceived s = execCorruptFrameReceived s := rfl
@[simp] theorem exec_rejectedFrameReceived (s : State) :
    exec .rejectedFrameReceived s = execRejectedFrameReceived s := rfl
@[simp] theorem exec_completionTimerExpiry (entry : Fin 16) (s : State) :
    exec (.completionTimerExpiry entry) s = execCompletionTimerExpiry entry s := rfl
@[simp] theorem exec_discardTimerExpiry (entry : Fin 16) (s : State) :
    exec (.discardTimerExpiry entry) s = execDiscardTimerExpiry entry s := rfl
@[simp] theorem exec_replayTimerExpiry (s : State) : exec .replayTimerExpiry s = execReplayTimerExpiry s := rfl
@[simp] theorem exec_ackDelayTimerExpiry (s : State) : exec .ackDelayTimerExpiry s = execAckDelayTimerExpiry s := rfl
@[simp] theorem exec_seekWindowExpiry (s : State) : exec .seekWindowExpiry s = execSeekWindowExpiry s := rfl
@[simp] theorem exec_alignCountExpiry (s : State) : exec .alignCountExpiry s = execAlignCountExpiry s := rfl
@[simp] theorem exec_newFrameSlot (s : State) : exec .newFrameSlot s = execNewFrameSlot s := rfl
@[simp] theorem exec_sendNk (s : State) : exec .sendNk s = execSendNk s := rfl
@[simp] theorem exec_sendAk (s : State) : exec .sendAk s = execSendAk s := rfl
@[simp] theorem exec_replayPassResend (s : State) : exec .replayPassResend s = execReplayPassResend s := rfl
@[simp] theorem exec_sendSk (s : State) : exec .sendSk s = execSendSk s := rfl
@[simp] theorem exec_sendAl (s : State) : exec .sendAl s = execSendAl s := rfl
@[simp] theorem exec_sendPm (s : State) : exec .sendPm s = execSendPm s := rfl

/-- A step of a state whose queue is not empty. -/
theorem step_of_pending {s : State} {c : Instr} {rest : List Instr} (h : s.pending = c :: rest) :
    step s = exec c { s with pending := rest } := by
  simp only [step, h]

/-- A step of a state whose queue is empty. -/
theorem step_of_empty {s : State} (h : s.pending = []) : step s = .next s.idle := by
  simp only [step, h]

/-- A member put in front of the rest of its list. -/
theorem getD_cons_eraseIdx_perm {α : Type} (d : α) : ∀ (l : List α) (i : Nat), i < l.length →
    (l.getD i d :: l.eraseIdx i).Perm l
  | [], _, h => by simp at h
  | x :: xs, 0, _ => by simp
  | x :: xs, i + 1, h => by
    simp only [List.getD_cons_succ, List.eraseIdx_cons_succ]
    exact (List.Perm.swap _ _ _).trans ((getD_cons_eraseIdx_perm d xs i (by simpa using h)).cons x)

/-- The free order of simultaneous events holds each of them once. -/
theorem takeInFreeOrder_perm : ∀ (fuel k : Nat) (events : List Instr), events.length ≤ fuel →
    (takeInFreeOrder fuel k events).1.Perm events := by
  intro fuel
  induction fuel with
  | zero =>
    intro k events h
    simp [takeInFreeOrder]
  | succ fuel ih =>
    intro k events h
    match events, h with
    | [], _ => simp [takeInFreeOrder]
    | [x], _ => simp [takeInFreeOrder]
    | x :: y :: rest, h =>
      have hlt : Config.takenFirst k % (x :: y :: rest).length < (x :: y :: rest).length :=
        Nat.mod_lt _ (by simp)
      have hlen : ((x :: y :: rest).eraseIdx (Config.takenFirst k % (x :: y :: rest).length)).length ≤ fuel := by
        rw [List.length_eraseIdx_of_lt hlt]
        simp only [List.length_cons] at h ⊢
        omega
      have ih' := ih (k + 1) _ hlen
      simp only [takeInFreeOrder]
      refine (List.Perm.cons _ ih').trans ?_
      exact getD_cons_eraseIdx_perm x _ _ hlt

end Sys2Proof.Machine
end

