-- ==== Sys2Proof/Laws/Tables.lean ====
section
/-! SUPPORT. What the searches of the tables find: the entry of a key or of a tag, the lowest FREE entry and tag, the hit of
a decode, and a requester's candidate; and what each update of the entries leaves in an entry. -/

namespace Sys2Proof.Machine

/-! ### Searches by number -/

/-- A search in number order finds the lowest member that qualifies. -/
theorem find?_finRange_eq_some {n : Nat} {p : Fin n → Bool} {k : Fin n} :
    (List.finRange n).find? p = some k ↔ p k = true ∧ ∀ j : Fin n, j < k → p j = false := by
  rw [List.find?_eq_some_iff_getElem]
  constructor
  · rintro ⟨hp, i, hi, rfl, hj⟩
    refine ⟨hp, fun j hlt => ?_⟩
    have hji : j.val < i := by
      have := Fin.lt_def.mp hlt
      simpa using this
    have := hj j.val hji
    simpa using this
  · rintro ⟨hp, hj⟩
    refine ⟨hp, k.val, by simp, by simp, fun j hlt => ?_⟩
    have := hj ⟨j, by omega⟩ (Fin.lt_def.mpr hlt)
    simpa using this

theorem find?_finRange_eq_none {n : Nat} {p : Fin n → Bool} :
    (List.finRange n).find? p = none ↔ ∀ j : Fin n, p j = false := by
  simp [List.find?_eq_none]

/-- A search that only one member answers finds that member's answer. -/
theorem findSome?_finRange_unique {n : Nat} {α : Type} {f : Fin n → Option α} {k : Fin n} {a : α} (hk : f k = some a)
    (h : ∀ j, j ≠ k → f j = none) : (List.finRange n).findSome? f = some a := by
  cases hr : (List.finRange n).findSome? f with
  | none =>
    have := List.findSome?_eq_none_iff.mp hr k (List.mem_finRange k)
    rw [hk] at this
    cases this
  | some b =>
    obtain ⟨j, -, hj⟩ := List.exists_of_findSome?_eq_some hr
    by_cases e : j = k
    · subst e
      rw [hj] at hk
      exact hk
    · rw [h j e] at hj
      cases hj

/-! ### Entries -/

theorem Hrt.entryWithKey_some {t : Hrt} {k : Key} {e : Fin 16} {h : Held} (he : t.entryWithKey k = some (e, h)) :
    t.entries[e] = some h ∧ h.key = k := by
  obtain ⟨f, -, hf⟩ := List.exists_of_findSome?_eq_some he
  cases hg : t.entries[f] with
  | none => simp [hg] at hf
  | some g =>
    simp only [hg] at hf
    split at hf
    · next hk =>
      simp only [Option.some.injEq, Prod.mk.injEq] at hf
      obtain ⟨rfl, rfl⟩ := hf
      exact ⟨hg, hk⟩
    · cases hf

theorem Hrt.entryWithKey_none {t : Hrt} {k : Key} :
    t.entryWithKey k = none ↔ ∀ e : Fin 16, ∀ h ∈ t.entries[e], h.key ≠ k := by
  rw [Hrt.entryWithKey, List.findSome?_eq_none_iff]
  constructor
  · intro hn e h he hk
    have := hn e (List.mem_finRange e)
    rw [Option.mem_def] at he
    simp [he, hk] at this
  · intro hn e _
    cases he : t.entries[e] with
    | none => rfl
    | some h => simp [hn e h he]

theorem Hrt.entryWithKey_of_distinct {t : Hrt} (hd : t.keysDistinct) {e : Fin 16} {h : Held}
    (he : t.entries[e] = some h) : t.entryWithKey h.key = some (e, h) := by
  refine findSome?_finRange_unique (k := e) (by simp [he]) fun j hj => ?_
  cases hg : t.entries[j] with
  | none => rfl
  | some g =>
    have : g.key ≠ h.key := fun hk => hj (hd j e g hg h he hk)
    simp [this]

theorem Held.holdsTag_iff {tag : Fin 32} {h : Held} : h.holdsTag tag = true ↔ ∃ n, h.phase = .issued tag n := by
  unfold Held.holdsTag
  cases h.phase <;> simp

theorem Hrt.entryWithTag_some {t : Hrt} {tag : Fin 32} {e : Fin 16} {h : Held}
    (he : t.entryWithTag tag = some (e, h)) : t.entries[e] = some h ∧ h.holdsTag tag = true := by
  obtain ⟨f, -, hf⟩ := List.exists_of_findSome?_eq_some he
  cases hg : t.entries[f] with
  | none => simp [hg] at hf
  | some g =>
    simp only [hg] at hf
    split at hf
    · next hk =>
      simp only [Option.some.injEq, Prod.mk.injEq] at hf
      obtain ⟨rfl, rfl⟩ := hf
      exact ⟨hg, hk⟩
    · cases hf

theorem Hrt.entryWithTag_of_unique {t : Hrt} {tag : Fin 32} {e : Fin 16} {h : Held} (he : t.entries[e] = some h)
    (ht : h.holdsTag tag = true) (hu : ∀ f : Fin 16, ∀ g ∈ t.entries[f], g.holdsTag tag = true → f = e) :
    t.entryWithTag tag = some (e, h) := by
  refine findSome?_finRange_unique (k := e) (by simp [he, ht]) fun j hj => ?_
  cases hg : t.entries[j] with
  | none => rfl
  | some g =>
    have : ¬ g.holdsTag tag = true := fun hk => hj (hu j g hg hk)
    simp [this]

theorem Hrt.lowestFree_eq_some {t : Hrt} {e : Fin 16} :
    t.lowestFree = some e ↔ t.entries[e] = none ∧ ∀ f : Fin 16, f < e → t.entries[f] ≠ none := by
  rw [Hrt.lowestFree, find?_finRange_eq_some]
  simp [Option.isSome_iff_ne_none]

theorem Hrt.lowestFree_eq_none {t : Hrt} : t.lowestFree = none ↔ ∀ e : Fin 16, t.entries[e] ≠ none := by
  rw [Hrt.lowestFree, find?_finRange_eq_none]
  simp [Option.isSome_iff_ne_none]

/-! ### Candidates -/

theorem Hrt.mem_queuedOf {t : Hrt} {r : Fin 8} {e : Fin 16} {h : Held} :
    (e, h) ∈ t.queuedOf r ↔ t.entries[e] = some h ∧ h.requester = r ∧ h.isQueued = true := by
  rw [Hrt.queuedOf, List.mem_filterMap]
  constructor
  · rintro ⟨f, -, hf⟩
    cases hg : t.entries[f] with
    | none => simp [hg] at hf
    | some g =>
      simp only [hg] at hf
      split at hf
      · next hk =>
        simp only [Option.some.injEq, Prod.mk.injEq] at hf
        obtain ⟨rfl, rfl⟩ := hf
        simp only [Bool.and_eq_true, decide_eq_true_eq] at hk
        exact ⟨hg, hk.1, hk.2⟩
      · cases hf
  · rintro ⟨he, hr, hq⟩
    exact ⟨e, List.mem_finRange e, by simp [he, hr, hq]⟩

theorem oldestOf_eq_none {l : List (Fin 16 × Held)} : oldestOf l = none ↔ l = [] := by
  cases l with
  | nil => simp [oldestOf]
  | cons x xs =>
    simp only [oldestOf, List.cons_ne_nil, iff_false]
    cases oldestOf xs with
    | none => simp
    | some y => simp only; split <;> simp

/-- The oldest member is a member, and none is older. -/
theorem oldestOf_eq_some {l : List (Fin 16 × Held)} {x : Fin 16 × Held} (h : oldestOf l = some x) :
    x ∈ l ∧ ∀ y ∈ l, x.2.order ≤ y.2.order := by
  induction l generalizing x with
  | nil => simp [oldestOf] at h
  | cons a as ih =>
    simp only [oldestOf] at h
    cases ho : oldestOf as with
    | none =>
      rw [ho] at h
      simp only [Option.some.injEq] at h
      subst h
      rw [oldestOf_eq_none.mp ho]
      simp
    | some b =>
      rw [ho] at h
      obtain ⟨hb, hmin⟩ := ih ho
      simp only at h
      split at h
      · next hab =>
        simp only [Option.some.injEq] at h
        subst h
        refine ⟨List.mem_cons_self, fun y hy => ?_⟩
        rcases List.mem_cons.mp hy with rfl | hy
        · exact Nat.le_refl _
        · exact Nat.le_trans hab (hmin y hy)
      · next hab =>
        simp only [Option.some.injEq] at h
        subst h
        refine ⟨List.mem_cons_of_mem _ hb, fun y hy => ?_⟩
        rcases List.mem_cons.mp hy with rfl | hy
        · omega
        · exact hmin y hy

/-- A candidate is QUEUED, belongs to its requester, and no QUEUED entry of that requester is older (R19). -/
theorem Hrt.candidate_some {t : Hrt} {r : Fin 8} {e : Fin 16} {h : Held} (hc : t.candidate r = some (e, h)) :
    t.entries[e] = some h ∧ h.requester = r ∧ h.isQueued = true ∧
      ∀ f : Fin 16, ∀ g ∈ t.entries[f], g.requester = r → g.isQueued = true → h.order ≤ g.order := by
  obtain ⟨hm, hmin⟩ := oldestOf_eq_some hc
  obtain ⟨he, hr, hq⟩ := Hrt.mem_queuedOf.mp hm
  exact ⟨he, hr, hq, fun f g hg hgr hgq => hmin (f, g) (Hrt.mem_queuedOf.mpr ⟨hg, hgr, hgq⟩)⟩

theorem Hrt.eligible_iff {t : Hrt} {r : Fin 8} :
    t.eligible r = true ↔ ∃ e h, t.candidate r = some (e, h) ∧ h.phase = .queued 0 := by
  unfold Hrt.eligible
  cases hc : t.candidate r with
  | none => simp
  | some p =>
    obtain ⟨e, h⟩ := p
    simp only [Option.some.injEq, Prod.mk.injEq, beq_iff_eq]
    exact ⟨fun hp => ⟨e, h, ⟨rfl, rfl⟩, hp⟩, fun ⟨_, _, ⟨he, hh⟩, hp⟩ => by rw [hh]; exact hp⟩

/-! ### Tags -/

theorem Isu.lowestFreeTag_eq_some {u : Isu} {tag : Fin 32} :
    u.lowestFreeTag = some tag ↔
      (u.tags[tag] = .free ∧ tag.val < u.allowance) ∧
        ∀ x : Fin 32, x < tag → ¬ (u.tags[x] = .free ∧ x.val < u.allowance) := by
  rw [Isu.lowestFreeTag, find?_finRange_eq_some]
  simp

theorem Isu.lowestFreeTag_eq_none {u : Isu} :
    u.lowestFreeTag = none ↔ ∀ x : Fin 32, ¬ (u.tags[x] = .free ∧ x.val < u.allowance) := by
  rw [Isu.lowestFreeTag, find?_finRange_eq_none]
  simp

/-! ### Windows -/

theorem Window.covers_iff {w : Window} {o : BitVec 28} :
    w.covers o = true ↔
      w.mode ≠ .off ∧ w.effectiveBase.toNat ≤ o.toNat ∧ o.toNat < w.effectiveBase.toNat + w.size := by
  simp [Window.covers, and_assoc]

theorem decodeOffset_eq_some {win : Vector Window 8} {o : BitVec 28} {w : Fin 8} (h : win[w].covers o = true)
    (hl : ∀ u : Fin 8, u < w → win[u].covers o = false) :
    decodeOffset win o =
      some { window := w, mode := win[w].mode, remote := win[w].translate o, segment := win[w].segment } := by
  rw [decodeOffset, find?_finRange_eq_some.mpr ⟨h, hl⟩]
  rfl

theorem decodeOffset_eq_none {win : Vector Window 8} {o : BitVec 28} :
    decodeOffset win o = none ↔ ∀ w : Fin 8, win[w].covers o = false := by
  rw [decodeOffset, Option.map_eq_none_iff, find?_finRange_eq_none]

/-! ### An entry after an update -/

theorem Hrt.setHeld_entries (t : Hrt) (e i : Fin 16) (f : Held → Held) :
    (t.setHeld e f).entries[i] = if i = e then t.entries[i].map f else t.entries[i] := by
  by_cases h : i = e
  · subst h
    simp [Hrt.setHeld]
  · have : e.val ≠ i.val := fun he => h (Fin.ext he.symm)
    simp [Hrt.setHeld, h, Vector.getElem_set_ne, this]

theorem Hrt.free_entries {t : Hrt} {e : Fin 16} {gone : Held} (he : t.entries[e] = some gone) (i : Fin 16) :
    (t.free e).entries[i] = if i = e then none else t.entries[i].map gone.moveUp := by
  simp [Hrt.free, he]

theorem Hrt.departure_entries (t : Hrt) (i : Fin 16) :
    t.departure.entries[i] = t.entries[i].map Held.afterDeparture := by
  simp [Hrt.departure]

theorem Hrt.teardown_entries (t : Hrt) (i : Fin 16) :
    t.teardown.entries[i] = t.entries[i].map (Held.afterTeardown t.discardTicks) := by
  simp [Hrt.teardown]

theorem Hrt.tick_entries (t : Hrt) (i : Fin 16) : t.tick.entries[i] = t.entries[i].map Held.tick := by
  simp [Hrt.tick]

theorem Hrt.create_entries (t : Hrt) (e i : Fin 16) (x : Transfer) (hit : Hit) (n : Nat) :
    (t.create e x hit n).entries[i] =
      if i = e then some (x.newEntry hit (t.requesters[x.requester].heldCount + 1) n) else t.entries[i] := by
  by_cases h : i = e
  · subst h
    simp [Hrt.create]
  · have : e.val ≠ i.val := fun he => h (Fin.ext he.symm)
    simp [Hrt.create, h, Vector.getElem_set_ne, this]

theorem Isu.setTag_tags (u : Isu) (tag i : Fin 32) (x : TagState) :
    (u.setTag tag x).tags[i] = if i = tag then x else u.tags[i] := by
  by_cases h : i = tag
  · subst h
    simp [Isu.setTag]
  · have : tag.val ≠ i.val := fun he => h (Fin.ext he.symm)
    simp [Isu.setTag, h, Vector.getElem_set_ne, this]

end Sys2Proof.Machine
end

