-- ==== Sys2Proof/Tests/Slice0.lean ====
section
/-! SUPPORT. The model's own tests: ill-formed commands, one or two steps of each command on small states, and for every
statement of `Certificates/Slice0/Obligations.lean` with hypotheses a state and operands that meet them. -/

namespace Sys2Proof.Tests

open Sys2Proof Sys2Proof.Machine

set_option Elab.async false

/-! ### Ill-formed commands -/

theorem test_wf_read_with_data : (Instr.apertureTransfer 0 .read 0 4 [1, 2, 3, 4]).wf = false := by decide
theorem test_wf_read_too_long : (Instr.apertureTransfer 0 .read 0 65536 []).wf = false := by decide
theorem test_wf_write_short_data : (Instr.apertureTransfer 0 .write 0 4 [1, 2, 3]).wf = false := by decide
theorem test_wf_write_too_long (data : List Byte) :
    (Instr.apertureTransfer 0 .write 0 65536 data).wf = false := by simp [Instr.wf]
theorem test_wf_register_write_too_long : (Instr.registerWrite 0 0 65536 0).wf = false := by decide
theorem test_wf_assigned_link_command : (Instr.unassignedLinkCommand 4).wf = false := by decide
theorem test_wf_completion_too_long : (Instr.cpReceived 0 0 .ok (List.replicate 65 0)).wf = false := by decide
theorem test_wf_accepted : (Instr.apertureTransfer 7 .read 0xFFFFFC0 64 []).wf = true ∧
    (Instr.apertureTransfer 0 .write 1 3 [1, 2, 3]).wf = true ∧ (Instr.registerWrite 0 0xFFF 2 0).wf = true ∧
    (Instr.unassignedLinkCommand 5).wf = true ∧ (Instr.cpReceived 0 31 .ok (List.replicate 64 0)).wf = true := by decide

/-! ### States -/

/-- The next state that a command answers. -/
def next (c : Instr) (s : State) : Option State :=
  match exec c s with
  | .next t => some t
  | .fault _ => none
  | .refused _ => none

/-- The state after some steps. -/
def after (k : Nat) (s : State) : Option State :=
  match Host.Core.run Sys2Proof.core k s with
  | .next t => some t
  | .fault _ => none
  | .refused _ => none

/-- A linked part: ACTIVE with session 5, Q = 16 and W = 8, five credits in use. -/
def linked : State :=
  { State.reset with
    ltc := { Ltc.reset with
      link := .active, ourSession := 1, partnerSession := 5, requestOffer := 16, writeOffer := 8 }
    isu := { Isu.reset with allowance := 16, writeOffer := 8, sent := 250, returned := 245 }
    lrx := { Lrx.reset with expected := 13 }
    ltx := { Ltx.reset with next := 5 } }

/-- Windows: 0 is STRICT, 1 is POSTED and lies in part under 0, 2 is READONLY. -/
def windows : Vector Window 8 :=
  ((Vector.replicate 8 Window.reset).set 0
      { mode := .strict, base := 0x40FFFF, sizeCode := 8, remoteBase := 0x0120012345, segment := 1 }).set 1
      { mode := .posted, base := 0x400000, sizeCode := 10, remoteBase := 0x0080000000, segment := 2 } |>.set 2
      { mode := .readonly, base := 0xA00000, sizeCode := 0, remoteBase := 0xFFFFFFF000, segment := 0 }

/-- An entry of the STRICT window. -/
def entry (r : Fin 8) (kind : HeldKind) (offset : BitVec 28) (size order : Nat) (phase : Phase) : Held :=
  { kind := kind, requester := r, offset := offset, size := size, window := 0
    remote := 0x0120000000 + (offset - 0x400000).setWidth 40, segment := 1, order := order, phase := phase }

/-- Two frames in the replay buffer, numbered 3 and 4. -/
def frames : List SentFrame :=
  [{ number := 3, bytes := akFrame 3 }, { number := 4, bytes := akFrame 4 }]

/-- A busy part: one entry in each state, a quarantined tag, a posted write and two frames to acknowledge. -/
def busy : State :=
  { linked with
    win := windows
    hrt := { Hrt.reset with
      entries := (((((Vector.replicate 16 none).set 0
          (some (entry 0 .read 0x400020 32 1 (.queued 0)))).set 1
          (some (entry 1 (.hwrite [1, 2, 3, 4]) 0x400100 4 1 (.issued 0 50000)))).set 2
          (some (entry 1 .read 0x400200 4 2 (.ready (some [9, 8, 7, 6]) 1024)))).set 3
          (some (entry 2 (.hwrite [5]) 0x400301 1 1 (.ready none 1024)))).set 4
          (some (entry 2 .read 0x400304 4 2 (.failed .remoteFault 1024)))
      requesters := (((Vector.replicate 8 Requester.reset).set 0
          { Requester.reset with heldCount := 1 }).set 1
          { Requester.reset with heldCount := 2 }).set 2
          { Requester.reset with heldCount := 2, discardRun := 3 } }
    pwq := { Pwq.reset with
      queue := [{ remote := 0x0120000010, segment := 1, size := 4, data := [0xDE, 0xAD, 0xBE, 0xEF] }] }
    isu := { linked.isu with tags := (Isu.reset.tags.set 0 .held).set 1 .quarantined }
    ltx := { linked.ltx with buffer := frames, replayTimer := some 100 } }

/-- A part that trains. -/
def training (link : LinkState) (run : Nat) (al : Option (BitVec 8)) : State :=
  { State.reset with
    ltc := { Ltc.reset with
      link := link, ourSession := 1, seekTimer := some 1000, skRun := run, alRun := al } }

/-- A retrain that has reached EXCHANGE with a session standing. -/
def retraining : State :=
  { busy with ltc := { busy.ltc with link := .exchange, seekTimer := some 1000, alRun := some 1 } }

/-- A part held in reset. -/
def low : State := { State.reset with resetN := false }

/-! ### Intake -/

theorem test_read_creates_entry :
    (next (.apertureTransfer 3 .read 0x400040 64 []) busy).map (fun t => (t.answer, t.hrt.entries[5])) =
      some (some .comeback, some (entry 3 .read 0x400040 64 1 (.queued 1))) := by decide +kernel
theorem test_return_collects_read_data :
    (next (.apertureTransfer 1 .read 0x400200 4 []) busy).map
        (fun t => (t.answer, t.hrt.entries[2], t.hrt.requesters[1].heldCount)) =
      some (some (.done [9, 8, 7, 6]), none, 1) := by decide +kernel

/-! ### Register writes -/

theorem test_register_write_tbdiv_zero :
    next (.registerWrite 6 0x008 4 0) busy =
      some { busy with reg := { busy.reg with tbdiv := 1 }, answer := some (.done []) } := by decide +kernel
theorem test_register_write_of_two_bytes :
    next (.registerWrite 6 0x008 2 0) busy = some { busy with answer := some .fault } := by decide +kernel
theorem test_function_reset :
    (next .functionReset busy).map (fun t => (t.ltc.link, t.isu.allowance, t.win, t.ltx.buffer, t.ltc.ourSession)) =
      some (.off, 0, windows, [], 1) := by decide +kernel
theorem test_enable :
    (next .enable State.reset).map (fun t => (t.ltc.link, t.ltc.ourSession, t.ltc.seekTimer, t.ltc.command)) =
      some (.seek, 1, some 1000, some { code := 1, accepted := true }) := by decide +kernel
theorem test_restart_refused :
    (next .restart State.reset).map (fun t => (t.ltc.link, t.ltc.command)) =
      some (.off, some { code := 3, accepted := false }) := by decide +kernel
theorem test_retrain :
    (next .retrain busy).map (fun t => (t.ltc.link, t.ltc.lastReason, t.ltx.replayTimer, t.ltx.buffer)) =
      some (.seek, .software, none, frames) := by decide +kernel
theorem test_disable :
    (next .disable { busy with tx := .frame (akFrame 4) }).map
        (fun t => (t.ltc.link, t.pwq.lostWrites, t.hrt.entries[0].map Held.phase, t.evu.localPending, t.tx)) =
      some (.off, 1, some (.failed .linkLost 1024), 0x0B, .idleFill) := by decide +kernel
theorem test_unassigned_link_command :
    (next (.unassignedLinkCommand 9) busy).map (fun t => t.readRegister .linkStatus) =
      some 0x00090004 := by decide +kernel
theorem test_clear_lapse :
    (next (.clearLapse 2 .b 7) busy).map (fun t => t.hrt.requesters[2]) =
      some { level := .b, heldLimit := 4, heldCount := 2, discardRun := 0, lapsed := false } := by decide +kernel
theorem test_clear_wrap_flag :
    (next .clearWrapFlag { busy with ltx := { busy.ltx with wrapFlag := true } }).map (fun t => t.ltx.wrapFlag) =
      some false := by decide +kernel
theorem test_clear_remote_source :
    (next (.clearRemoteSource 0x8000) { busy with evu := { Evu.reset with remotePending := 0x8001 } }).map
      (fun t => t.evu.remotePending) = some 1 := by decide +kernel
theorem test_clear_local_cause_drops_line :
    (next (.clearLocalCause 1)
        { busy with evu := { Evu.reset with localPending := 1, localEnable := 1, intA := true } }).map
      (fun t => (t.evu.localPending, t.evu.intA)) = some (0, false) := by decide +kernel
theorem test_fault_record_clear :
    (next .faultRecordClear
        { busy with evu := { Evu.reset with localPending := 1, fault := some { kind := .badTag }, laterCount := 4 } }).map
      (fun t => (t.evu.fault, t.evu.laterCount, t.evu.localPending)) = some (none, 0, 1) := by decide +kernel

/-! ### RESET_N -/

theorem test_chip_reset : next .chipReset busy = some low := by decide +kernel
theorem test_chip_reset_release : next .chipResetRelease low = some State.reset := by decide +kernel
theorem test_transfer_while_low :
    next (.apertureTransfer 0 .read 0 4 []) low = some { low with answer := some .fault } := by decide +kernel

/-! ### Received frames -/

theorem test_completion_delivered :
    (next (.cpReceived 13 0 .ok []) busy).map
        (fun t => (t.hrt.entries[1].map Held.phase, t.isu.tags[0], t.lrx.expected, t.lrx.ackDelayTimer)) =
      some (some (.ready none 1024), .free, 14, some 8) := by decide +kernel
theorem test_late_completion :
    (next (.cpReceived 13 1 .ok [1]) busy).map (fun t => (t.isu.tags[1], t.evu.localPending, t.evu.fault)) =
      some (.free, 0x20, none) := by decide +kernel
theorem test_signal :
    (next (.evReceived 13 0 #v[0x13, 0, 0, 0, 0, 0, 0]) busy).map (fun t => t.evu.remotePending) = some 8 := by decide +kernel
theorem test_write_fault_event :
    (next (.evReceived 13 1 #v[2, 1, 0x20, 0, 0, 0x10, 9]) busy).map (fun t => t.evu.fault) =
      some (some { kind := .writeFault, remote := some (0x0120000010, 2), detail := some 9 }) := by decide +kernel
theorem test_ack_progress :
    (next (.akReceived 3) busy).map (fun t => (t.ltx.buffer, t.ltx.replayTimer)) =
      some ([{ number := 4, bytes := akFrame 4 }], some 100) := by decide +kernel
theorem test_ack_out_of_range :
    (next (.akReceived 5) busy).map (fun t => t.evu.fault) =
      some (some { kind := .ackRange, detail := some 5 }) := by decide +kernel
theorem test_nak_starts_pass :
    (next (.nkReceived 2) busy).map (fun t => (t.ltx.pass, t.ltx.shortRetry, t.ltx.replayCounter)) =
      some (some 3, 1, 1) := by decide +kernel
theorem test_credits_returned :
    (next (.crReceived 250) linked).map (fun t => (t.isu.returned, t.evu.fault)) = some (250, none) := by decide +kernel
theorem test_credits_overrun :
    (next (.crReceived 251) linked).map (fun t => (t.isu.returned, t.evu.fault)) =
      some (245, some { kind := .creditOverrun, detail := some 251 }) := by decide +kernel
theorem test_third_seek_frame :
    (next (.skReceived .g1) (training .seek 2 none)).map (fun t => t.ltc.link) = some .align := by decide +kernel
theorem test_seek_frame_in_active :
    (next (.skReceived .g1) linked).map (fun t => (t.ltc.link, t.ltc.lastReason, t.ltc.skRun)) =
      some (.seek, .partner, 1) := by decide +kernel
theorem test_align_lock :
    (next (.alReceived 0) (training .align 3 (some 255))).map (fun t => t.ltc.link) = some .exchange := by decide +kernel
theorem test_parameters_start_session :
    (next (.pmReceived 5 .g1 32 64) (training .exchange 3 (some 0))).map
        (fun t => (t.ltc.link, t.ltc.partnerSession, t.isu.allowance, t.isu.writeOffer, t.evu.localPending)) =
      some (.active, 5, 32, 64, 2) := by decide +kernel
theorem test_parameters_invalid :
    (next (.pmReceived 5 .g1 33 64) (training .exchange 3 (some 0))).map (fun t => t.evu.fault) =
      some (some { kind := .paramInvalid, detail := some 3 }) := by decide +kernel
theorem test_corrupt_frame :
    (next .corruptFrameReceived linked).map (fun t => (t.lrx.lineLossRun, t.lrx.nakOpen, t.ltx.nkDue)) =
      some (1, true, some 12) := by decide +kernel
theorem test_rejected_frame :
    (next .rejectedFrameReceived linked).map (fun t => (t.lrx.lineLossRun, t.ltx.nkDue)) = some (0, some 12) := by decide +kernel

/-! ### Timers -/

theorem test_completion_timer_expiry :
    (next (.completionTimerExpiry 1) busy).map
        (fun t => (t.isu.tags[0], t.hrt.entries[1].map Held.phase, t.evu.localPending)) =
      some (.quarantined, some (.failed .noCompletion 1024), 0x11) := by decide +kernel
theorem test_discard_lapses :
    (next (.discardTimerExpiry 3) busy).map
        (fun t => (t.hrt.entries[3], t.hrt.entries[4].map Held.order, t.hrt.requesters[2].lapsed, t.evu.localPending)) =
      some (none, some 1, true, 4) := by decide +kernel
theorem test_replay_timer_expiry :
    (next .replayTimerExpiry busy).map (fun t => (t.ltx.pass, t.ltx.replayTimer)) = some (some 3, none) := by decide +kernel
theorem test_ack_delay_timer_expiry :
    (next .ackDelayTimerExpiry { linked with lrx := { linked.lrx with ackDelayTimer := some 0 } }).map
      (fun t => (t.ltx.akDue, t.lrx.ackDelayTimer)) = some (true, none) := by decide +kernel
theorem test_seek_window_expiry_fails :
    (next .seekWindowExpiry
        { training .align 3 none with
          ltc := { (training .align 3 none).ltc with attempts := 7 }, tx := .frame (alFrame 3) }).map
      (fun t => (t.ltc.link, t.ltc.failure, t.evu.localPending, t.tx)) =
      some (.failed, .trainTimeout, 2, .idleFill) := by decide +kernel
theorem test_align_count_expiry :
    (next .alignCountExpiry
        { training .align 3 none with ltc := { (training .align 3 none).ltc with alignTimer := some 0 } }).map
      (fun t => t.ltc.link) = some .exchange := by decide +kernel

/-! ### The transmit pair -/

theorem test_new_frame_slot_posted :
    (next .newFrameSlot busy).map (fun t => (t.tx, t.isu.sent, t.pwq.queue, t.ltx.next)) =
      some (.frame [0x11, 5, 3, 1, 0x20, 0, 0, 0x10, 0xDE, 0xAD, 0xBE, 0xEF, 0xD8, 0x5B], 251, [], 6) := by decide +kernel
theorem test_new_frame_slot_held :
    (next .newFrameSlot { busy with pwq := Pwq.reset }).map
        (fun t => (t.tx, t.isu.tags[2], t.hrt.entries[0].map Held.phase, t.isu.pointerA)) =
      some (.frame [0x21, 5, 2, 0x1F, 1, 0x20, 0, 0, 0x20, 0x1A, 0x0A], .held, some (.issued 2 50000),
        some (.requester 0)) := by decide +kernel
theorem test_slot_with_full_buffer_idles :
    (next .newFrameSlot
        { busy with
          ltx := { busy.ltx with buffer := List.replicate 32 { number := 4, bytes := [] } }
          tx := .frame (akFrame 4) }).map (fun t => t.tx) = some .idleFill := by decide +kernel
theorem test_held_read_frame_of_the_spec :
    requestFrame 12 5
        { entry 0 .read 0x400020 8 1 (.queued 0) with remote := 0x0145600100, segment := 2 } =
      [0x22, 0x0C, 0x05, 0x07, 0x01, 0x45, 0x60, 0x01, 0x00, 0x09, 0x6A] := by decide +kernel
theorem test_send_nk :
    (next .sendNk { linked with ltx := { linked.ltx with nkDue := some 12 } }).map (fun t => (t.tx, t.ltx.nkDue)) =
      some (.frame [0x90, 0x0C, 0xC4, 0x68], none) := by decide +kernel
theorem test_send_ak :
    (next .sendAk { linked with ltx := { linked.ltx with akDue := true } }).map (fun t => (t.tx, t.ltx.akDue)) =
      some (.frame [0x80, 0x0C, 0xC7, 0x1B], false) := by decide +kernel
theorem test_replay_pass_ends :
    (next .replayPassResend { busy with ltx := { busy.ltx with pass := some 4, replayTimer := none } }).map
      (fun t => (t.tx, t.ltx.pass, t.ltx.replayTimer)) = some (.frame (akFrame 4), none, some 100) := by decide +kernel
theorem test_send_sk :
    (next .sendSk { training .seek 0 none with ltc := { (training .seek 0 none).ltc with current := .g2 } }).map
      (fun t => t.tx) = some (.frame [0xC1, 0x3C, 0xC3, 0x5A, 0xA5, 0x0F, 0xF0, 0x72, 0x62]) := by decide +kernel
theorem test_send_al :
    (next .sendAl { training .align 3 none with ltx := { Ltx.reset with alignIndex := 255 } }).map
      (fun t => (t.tx, t.ltx.alignIndex)) = some (.frame [0xD0, 0xFF, 0x16, 0xD8], 0) := by decide +kernel
theorem test_send_pm :
    (next .sendPm { training .exchange 3 none with
        ltc := { (training .exchange 3 none).ltc with ourSession := 7, current := .g2 } }).map
      (fun t => t.tx) = some (.frame [0xE7, 1, 0, 0, 0x66, 0x37]) := by decide +kernel

/-! ### The clock and the receive pair -/

theorem test_tick_restarts_and_counts :
    after 1 { busy with reg := { busy.reg with clocksLeft := 1 } } =
      some { busy.countTick with reg := { busy.reg with clocksLeft := 100 } } := by decide +kernel
theorem test_completion_arrives_on_the_line :
    after 9
      { linked with
        rxLine := .start :: ([0x40, 13, 0, 2, 9, 8, 0x10, 0x8A] : List Byte).map .byte ++ [.idleFill] } =
      some { linked with rxLine := [.idleFill], pending := [.cpReceived 13 0 .ok [9, 8]] } := by decide +kernel
theorem test_unassigned_status_is_rejected :
    commandOf [0x43, 13, 0, 0, 0x33, 0xD1] = .rejectedFrameReceived := by decide +kernel
theorem test_bad_crc_is_corrupt :
    commandOf [0x43, 13, 0, 0, 0x33, 0xD0] = .corruptFrameReceived := by decide +kernel

/-! ### States and operands that meet the hypotheses of the statements

Each theorem is named after its statement; each conjunct, or the theorem's own suffix, is one clause at a boundary. -/

/-- The replay timer and an entry's completion timer run out at the tick that ends. -/
def ending : State :=
  { busy with
    reg := { busy.reg with clocksLeft := 1 }
    ltx := { busy.ltx with replayTimer := some 1 } }

theorem witness_TickCountsTimersAndQueuesExpiries :
    (ending.pending = [] ∧ ending.rxLine = [] ∧ ending.resetN = true ∧ ending.reg.clocksLeft ≤ 1) ∧
      (State.reset.pending = [] ∧ State.reset.rxLine = [] ∧ State.reset.resetN = true ∧
        1 < { State.reset.reg with clocksLeft := 2 }.clocksLeft) ∧
      (after 1 ending).map (fun t => (t.pending, t.ltx.replayTimer)) = some ([.replayTimerExpiry], some 0) := by
  decide +kernel

theorem witness_LowResetPinStopsEveryCommand : low.resetN = false := by decide

theorem witness_FunctionResetKeepsConfiguration : busy.resetN = true := by decide

theorem witness_RegisterMapAndResetValues :
    busy.resetN = true ∧ busy.hrt.entries[15] = none ∧
      busy.hrt.entries[1] = some (entry 1 (.hwrite [1, 2, 3, 4]) 0x400100 4 1 (.issued 0 50000)) ∧
      busy.registerRead 0x144 4 = some 0x0000011A ∧ busy.registerRead 0x150 4 = some 0x01000224 ∧
      busy.registerRead 0x058 4 = some 0x00000205 ∧ busy.registerRead 0x188 4 = some 2 ∧
      State.reset.resetN = true ∧ (0xFFC : BitVec 12).toNat % 4 = 0 ∧ registerAt (0xFFC : BitVec 12).toNat = none ∧
      registerAt (0x014 : BitVec 12).toNat = none ∧ registerAt 0x17C = some (.entryView 15) := by decide +kernel

theorem witness_IdentityRegisterIsConstant : busy.resetN = true ∧ low.resetN = false := by decide

theorem witness_RegisterAccessTakenOrAnsweredFault :
    (busy.resetN = true ∧ 4 = 4 ∧ (0xFFC : BitVec 12).toNat % 4 = 0) ∧ (0xFFE : BitVec 12).toNat % 4 ≠ 0 ∧
      (2 : Nat) ≠ 4 ∧ low.resetN = false := by decide

theorem witness_WindowRegistersWriteAndReadBack : busy.resetN = true := by decide

theorem witness_ControlRegisterWrites : busy.resetN = true := by decide

theorem witness_InterruptControlWrites :
    busy.resetN = true ∧ (0x204 : BitVec 12).toNat = 0x204 ∧ (0x214 : BitVec 12).toNat = 0x214 := by decide

theorem witness_ReadOnlyAndUnassignedWritesIgnored :
    busy.resetN = true ∧
      (registerAt (0xFFC : BitVec 12).toNat = none ∧ (0xFFC : BitVec 12).toNat % 4 = 0) ∧
      ((0x17C : BitVec 12).toNat = 0x140 + 4 * (15 : Fin 16).val ∧ (0x17C : BitVec 12).toNat % 4 = 0) ∧
      ((0x298 : BitVec 12) ∈ [(0x000 : BitVec 12), 0x298] ∧ (0x298 : BitVec 12).toNat % 4 = 0) := by decide +kernel

theorem witness_RegisterWriteActsAsItsCommandRow :
    busy.resetN = true ∧ (0x00010001 : Word).getLsbD 0 = true ∧ (0x00010001 : Word).getLsbD 16 = true ∧
      (0 : Word).getLsbD 0 = false ∧ (0 : Word).getLsbD 16 = false ∧ (0 : Word).getLsbD 8 = false ∧
      (0x100 : Word).getLsbD 8 = true ∧
      (∀ n : Fin 5, (BitVec.ofNat 32 n.val : Word).extractLsb' 0 4 = BitVec.ofNat 4 n.val) ∧
      5 ≤ ((5 : Word).extractLsb' 0 4).toNat ∧ 5 ≤ ((15 : Word).extractLsb' 0 4).toNat := by decide

theorem witness_AcceptedTrainingCommands :
    (State.reset.resetN = true ∧ State.reset.ltc.link = .off) ∧
      ((training .failed 0 none).resetN = true ∧ (training .failed 0 none).ltc.link = .failed) ∧
      (busy.resetN = true ∧ busy.ltc.link = .active) := by decide

theorem witness_RefusedLinkCommands :
    busy.resetN = true ∧ busy.ltc.link ≠ .off ∧ busy.ltc.link ≠ .failed ∧
      (training .seek 0 none).resetN = true ∧ (training .seek 0 none).ltc.link ≠ .active ∧
      State.reset.resetN = true ∧ State.reset.ltc.link = .off ∧
      5 ≤ (5 : BitVec 4).toNat ∧ 5 ≤ (15 : BitVec 4).toNat := by decide

theorem witness_TeardownAndDisableEndTheSession : busy.resetN = true ∧ busy.ltc.link ≠ .off := by decide

theorem witness_ClearCommandsClearTheirFlags : busy.resetN = true := by decide

theorem witness_FaultRecordCleared :
    busy.resetN = true ∧ (1 : Word).getLsbD 0 = true ∧ (0xFFFFFFFE : Word).getLsbD 0 = false := by decide

/-- An event unit whose record is filled and whose later count is at its end. -/
def filled : Evu := { Evu.reset with fault := some { kind := .badTag }, laterCount := 255 }

theorem witness_ReportsAndRaisesReachTheEventUnit :
    Evu.reset.fault = none ∧ filled.fault = some { kind := .badTag } := by decide

/-- A part with pending causes. -/
def pendingCauses (l : BitVec 8) (r : BitVec 16) : State :=
  { State.reset with
    evu := { Evu.reset with localPending := l, localEnable := 0xFF, remotePending := r, remoteEnable := 0xFFFF } }

/-- The cause of the lowest rank alone. -/
def rankEight : Evu := (pendingCauses 0x80 0xFFFF).evu

/-- The last source alone. -/
def lastSource : Evu := (pendingCauses 0 0x8000).evu

theorem witness_IdentificationAndQuietStatus :
    ((rankEight.localPending.getLsbD 7 && rankEight.localEnable.getLsbD 7) = true ∧
        ∀ j : Fin 8, j < 7 → (rankEight.localPending.getLsbD j && rankEight.localEnable.getLsbD j) = false) ∧
      ((∀ j : Fin 8, (lastSource.localPending.getLsbD j && lastSource.localEnable.getLsbD j) = false) ∧
        (lastSource.remotePending.getLsbD 15 && lastSource.remoteEnable.getLsbD 15) = true ∧
        ∀ m : Fin 16, m < 15 → (lastSource.remotePending.getLsbD m && lastSource.remoteEnable.getLsbD m) = false) ∧
      (∀ m : Fin 16, (Evu.reset.remotePending.getLsbD m && Evu.reset.remoteEnable.getLsbD m) = false) := by decide

/-- The windows that match an offset, window by window. -/
def covered (o : BitVec 28) (w : Fin 8) : Bool := windows[w].covers o

theorem witness_WindowsDecodeByEffectiveBases_found (o : BitVec 28) (w : Fin 8) :
    covered o w = true ↔
      windows[w].mode ≠ .off ∧ windows[w].effectiveBase.toNat ≤ o.toNat ∧
        o.toNat < windows[w].effectiveBase.toNat + windows[w].size := by
  simp [covered, Window.covers, and_assoc]

theorem witness_WindowsDecodeByEffectiveBases :
    (covered 0x4FFFFF 0 = true ∧ ∀ u : Fin 8, u < 0 → covered 0x4FFFFF u = false) ∧
      (covered 0x500000 1 = true ∧ ∀ u : Fin 8, u < 1 → covered 0x500000 u = false) ∧
      covered 0xA00FFF 2 = true ∧ (∀ w : Fin 8, covered 0xA01000 w = false) ∧ covered 0x3FFFFF 1 = false := by
  decide +kernel

theorem witness_BadSizeAnsweredFault :
    busy.resetN = true ∧ 0 ∉ [1, 2, 4, 8, 16, 32, 64] ∧ 3 ∉ [1, 2, 4, 8, 16, 32, 64] ∧
      128 ∉ [1, 2, 4, 8, 16, 32, 64] ∧ (0x400002 : BitVec 28).toNat % 4 ≠ 0 ∧
      (0xFFFFFE0 : BitVec 28).toNat % 64 ≠ 0 := by decide

theorem witness_ReturnsThatLeaveTheEntry :
    busy.resetN = true ∧ busy.hrt.keysDistinct ∧
      (sizeRule 0x400020 32 = true ∧
        busy.hrt.entries[0] = some (entry 0 .read 0x400020 32 1 (.queued 0)) ∧
        (entry 0 .read 0x400020 32 1 (.queued 0)).key =
          { requester := 0, direction := .read, offset := 0x400020, size := 32 }) ∧
      (sizeRule 0x400100 4 = true ∧
        busy.hrt.entries[1] = some (entry 1 (.hwrite [1, 2, 3, 4]) 0x400100 4 1 (.issued 0 50000)) ∧
        (entry 1 (.hwrite [1, 2, 3, 4]) 0x400100 4 1 (.issued 0 50000)).key =
          { requester := 1, direction := .write, offset := 0x400100, size := 4 }) ∧
      ([1, 2, 3, 4] : List Byte) ≠ [1, 2, 3, 5] := by decide +kernel

theorem witness_ReturnCollectsOutcome :
    busy.resetN = true ∧ busy.hrt.keysDistinct ∧
      (sizeRule 0x400200 4 = true ∧
        busy.hrt.entries[2] = some (entry 1 .read 0x400200 4 2 (.ready (some [9, 8, 7, 6]) 1024)) ∧
        (entry 1 .read 0x400200 4 2 (.ready (some [9, 8, 7, 6]) 1024)).key =
          { requester := 1, direction := .read, offset := 0x400200, size := 4 }) ∧
      (sizeRule 0x400301 1 = true ∧
        busy.hrt.entries[3] = some (entry 2 (.hwrite [5]) 0x400301 1 1 (.ready none 1024)) ∧
        (entry 2 (.hwrite [5]) 0x400301 1 1 (.ready none 1024)).key =
          { requester := 2, direction := .write, offset := 0x400301, size := 1 }) ∧
      (sizeRule 0x400304 4 = true ∧
        busy.hrt.entries[4] = some (entry 2 .read 0x400304 4 2 (.failed .remoteFault 1024)) ∧
        (entry 2 .read 0x400304 4 2 (.failed .remoteFault 1024)).key =
          { requester := 2, direction := .read, offset := 0x400304, size := 4 }) := by decide +kernel

/-- A part whose sixteen entries are all taken. -/
def full : State :=
  { busy with
    hrt := { busy.hrt with
      entries := Vector.ofFn fun e : Fin 16 => some (entry 7 .read (BitVec.ofNat 28 (0x400000 + 4 * e)) 4 1 (.queued 0)) } }

theorem witness_TransfersAnsweredComebackWithoutTrace :
    busy.resetN = true ∧ sizeRule 0x400400 4 = true ∧
      { busy.reg with intakeHold := true }.intakeHold = true ∧
      ((∀ e : Fin 16, ∀ h ∈ busy.hrt.entries[e],
          h.key ≠ { requester := 1, direction := .read, offset := 0x400400, size := 4 }) ∧
        busy.hrt.requesters[1].heldLimit.toNat ≤ busy.hrt.requesters[1].heldCount) ∧
      ((∀ e : Fin 16, ∀ h ∈ full.hrt.entries[e],
          h.key ≠ { requester := 3, direction := .write, offset := 0x400400, size := 4 }) ∧
        (decodeOffset full.win 0x400400).map Hit.mode = some .strict ∧
        (∀ e : Fin 16, full.hrt.entries[e] ≠ none) ∧ full.hrt.requesters[3].lapsed = false ∧
        full.ltc.link ≠ .off ∧ full.ltc.link ≠ .failed) := by decide +kernel

theorem witness_IntakeFaultsAfterMatching :
    busy.resetN = true ∧ busy.reg.intakeHold = false ∧
      (sizeRule 0xA01000 4 = true ∧ decodeOffset busy.win 0xA01000 = none ∧
        ∀ e : Fin 16, ∀ h ∈ busy.hrt.entries[e],
          h.key ≠ { requester := 0, direction := .write, offset := 0xA01000, size := 4 }) ∧
      (sizeRule 0xA00FFC 4 = true ∧ (decodeOffset busy.win 0xA00FFC).map Hit.mode = some .readonly ∧
        ∀ e : Fin 16, ∀ h ∈ busy.hrt.entries[e],
          h.key ≠ { requester := 0, direction := .write, offset := 0xA00FFC, size := 4 }) ∧
      (sizeRule 0x400000 4 = true ∧ (decodeOffset busy.win 0x400000).map Hit.mode = some .strict ∧
        ∀ e : Fin 16, ∀ h ∈ busy.hrt.entries[e],
          h.key ≠ { requester := 0, direction := .write, offset := 0x400000, size := 4 }) ∧
      State.reset.ltc.link = .off ∧ (training .failed 0 none).ltc.link = .failed ∧
      busy.ltc.link ≠ .off ∧ busy.ltc.link ≠ .failed ∧
      { busy.hrt.requesters[0] with lapsed := true }.lapsed = true := by decide +kernel

theorem witness_CreationTakesLowestFreeEntry :
    busy.resetN = true ∧ sizeRule 0x400000 64 = true ∧
      (∀ f : Fin 16, ∀ h ∈ busy.hrt.entries[f],
        h.key ≠ { requester := 0, direction := .write, offset := 0x400000, size := 64 }) ∧
      busy.reg.intakeHold = false ∧
      decodeOffset busy.win 0x400000 =
        some { window := 0, mode := .strict, remote := 0x0120000000, segment := 1 } ∧
      busy.ltc.link ≠ .off ∧ busy.ltc.link ≠ .failed ∧ busy.hrt.requesters[0].lapsed = false ∧
      busy.hrt.requesters[0].heldCount + 1 = busy.hrt.requesters[0].heldLimit.toNat ∧
      busy.hrt.entries[5] = none ∧ ∀ f : Fin 16, f < 5 → busy.hrt.entries[f] ≠ none := by decide +kernel

theorem witness_PostedWriteAnswers :
    busy.resetN = true ∧ sizeRule 0x500000 4 = true ∧
      (∀ f : Fin 16, ∀ h ∈ busy.hrt.entries[f],
        h.key ≠ { requester := 0, direction := .write, offset := 0x500000, size := 4 }) ∧
      busy.reg.intakeHold = false ∧
      decodeOffset busy.win 0x500000 =
        some { window := 1, mode := .posted, remote := 0x0080100000, segment := 2 } ∧
      busy.ltc.link ≠ .off ∧ busy.ltc.link ≠ .failed ∧ busy.pwq.queue.length < 16 ∧
      (List.replicate 15 busy.pwq.queue[0]).length < 16 ∧ 16 ≤ (List.replicate 16 busy.pwq.queue[0]).length ∧
      State.reset.ltc.link = .off ∧ (training .failed 0 none).ltc.link = .failed := by decide +kernel

theorem witness_SequenceCheckOfNumberedFrames :
    linked.resetN = true ∧ linked.ltc.link = .active ∧ linked.lrx.nakOpen = false ∧
      { linked.lrx with nakOpen := true }.nakOpen = true ∧
      (12 : BitVec 7) = linked.lrx.expected - BitVec.ofNat 7 1 ∧
      (77 : BitVec 7) = linked.lrx.expected - BitVec.ofNat 7 64 ∧
      (14 : BitVec 7) = linked.lrx.expected + BitVec.ofNat 7 1 ∧
      (76 : BitVec 7) = linked.lrx.expected + BitVec.ofNat 7 63 := by decide

theorem witness_CompletionReachesItsEntry :
    busy.resetN = true ∧ busy.ltc.link = .active ∧ (0 : Fin 32).val < busy.isu.allowance ∧
      busy.isu.tags[0] = .held ∧
      busy.hrt.entries[1] = some (entry 1 (.hwrite [1, 2, 3, 4]) 0x400100 4 1 (.issued 0 50000)) ∧
      ∀ f : Fin 16, ∀ g ∈ busy.hrt.entries[f], g.holdsTag 0 = true → f = 1 := by decide +kernel

theorem witness_LateAndBadTagCompletions :
    busy.resetN = true ∧ busy.ltc.link = .active ∧
      ((1 : Fin 32).val < busy.isu.allowance ∧ busy.isu.tags[1] = .quarantined) ∧
      busy.isu.allowance ≤ (16 : Fin 32).val ∧ busy.isu.tags[15] = .free := by decide +kernel

theorem witness_EventFramesReachTheEventUnit :
    busy.resetN = true ∧ busy.ltc.link = .active ∧
      (15 : Fin 16).val = ((0xFF : Byte).extractLsb' 0 4).toNat ∧ busy.evu.remotePending.getLsbD 15 = false ∧
      (pendingCauses 0 0x8000).evu.remotePending.getLsbD 15 = true ∧
      2 ≤ (2 : BitVec 4).toNat ∧ 2 ≤ (15 : BitVec 4).toNat := by decide +kernel

theorem witness_AcknowledgementCases :
    busy.resetN = true ∧ busy.ltc.link = .active ∧
      (busy.ltx.buffer = [] ++ { number := 3, bytes := akFrame 3 } :: [{ number := 4, bytes := akFrame 4 }]) ∧
      (busy.ltx.buffer = [{ number := 3, bytes := akFrame 3 }] ++ { number := 4, bytes := akFrame 4 } :: [] ∧
        ∀ g ∈ [({ number := 3, bytes := akFrame 3 } : SentFrame)], g.number ≠ 4) ∧
      ((∀ g ∈ busy.ltx.buffer, g.number ≠ 2) ∧
        2 = (busy.ltx.buffer.head?.map SentFrame.number).getD busy.ltx.next - 1) ∧
      ((∀ g ∈ busy.ltx.buffer, g.number ≠ 5) ∧
        5 ≠ (busy.ltx.buffer.head?.map SentFrame.number).getD busy.ltx.next - 1) ∧
      ((∀ g ∈ linked.ltx.buffer, g.number ≠ 4) ∧
        4 = (linked.ltx.buffer.head?.map SentFrame.number).getD linked.ltx.next - 1) := by decide +kernel

/-- Retry counts in a linked part with frames to acknowledge. -/
def retries (short long : Nat) : State :=
  { busy with ltx := { busy.ltx with shortRetry := short, longRetry := long } }

theorem witness_ReplayDueAndNegativeAcknowledge :
    busy.resetN = true ∧ busy.ltc.link = .active ∧
      (retries 1 0).ltx.shortRetry < (retries 1 0).ltx.shortLimit.toNat ∧
      ((retries 2 2).ltx.shortLimit.toNat ≤ (retries 2 2).ltx.shortRetry ∧
        (retries 2 2).ltx.longRetry < (retries 2 2).ltx.longLimit.toNat) ∧
      ((retries 2 3).ltx.shortLimit.toNat ≤ (retries 2 3).ltx.shortRetry ∧
        (retries 2 3).ltx.longLimit.toNat ≤ (retries 2 3).ltx.longRetry) ∧
      ((∀ g ∈ busy.ltx.buffer, g.number ≠ 5) ∧
        5 ≠ (busy.ltx.buffer.head?.map SentFrame.number).getD busy.ltx.next - 1) ∧
      (∃ g ∈ busy.ltx.buffer, g.number = 3) ∧
      ((next (.akReceived 3) busy).map fun t => (t.ltx.pass, t.ltx.buffer.isEmpty)) = some (none, false) ∧
      ((next (.akReceived 4) busy).map fun t => (t.ltx.pass, t.ltx.buffer.isEmpty)) = some (none, true) := by
  decide +kernel

theorem witness_CreditReturnCases :
    linked.resetN = true ∧ linked.ltc.link = .active ∧
      ((250 : BitVec 8) - linked.isu.returned).toNat = (linked.isu.sent - linked.isu.returned).toNat ∧
      (linked.isu.sent - linked.isu.returned).toNat + 1 = ((251 : BitVec 8) - linked.isu.returned).toNat := by decide

theorem witness_SeekAndAlignFramesMoveTheLinkOn :
    (∀ s ∈ [training .seek 0 none, training .seek 1 none, training .seek 2 none],
        s.resetN = true ∧ s.ltc.link = .seek) ∧
      Grade.g2 ≠ (training .seek 1 none).ltc.current ∧ (training .seek 1 none).ltc.skRun < 2 ∧
      1 ≤ (training .seek 1 none).ltc.skRun ∧ 2 ≤ (training .seek 2 none).ltc.skRun ∧
      (training .seek 0 none).ltc.skRun = 0 ∧
      (∀ s ∈ [training .align 3 none, training .align 3 (some 255)], s.resetN = true ∧ s.ltc.link = .align) ∧
      (training .align 3 none).ltc.alRun ≠ some ((7 : BitVec 8) - 1) ∧
      (training .align 3 (some 255)).ltc.alRun = some ((0 : BitVec 8) - 1) ∧
      (training .exchange 3 none).ltc.link = .exchange := by decide

theorem witness_ParametersBeforeAndFailingTheExchange :
    (training .seek 1 none).resetN = true ∧ (training .seek 1 none).ltc.link = .seek ∧
      ((training .align 3 none).ltc.link = .align ∧ (training .align 3 none).ltc.alRun = none) ∧
      (training .align 3 (some 0)).ltc.alRun ≠ none ∧
      (training .exchange 3 none).ltc.link = .exchange ∧ Grade.g2 ≠ (training .exchange 3 none).ltc.current ∧
      (32 : Nat) < (33 : BitVec 8).toNat ∧ (0 : BitVec 8).toNat = 0 ∧ (64 : Nat) < (65 : BitVec 8).toNat ∧
      1 ≤ (32 : BitVec 8).toNat ∧ (32 : BitVec 8).toNat ≤ 32 := by decide

theorem witness_ValidParametersStartResumeOrEndTheSession :
    ((training .exchange 3 none).resetN = true ∧ (training .exchange 3 none).ltc.link = .exchange ∧
        (training .exchange 3 none).ltc.partnerSession = 0 ∧ (15 : BitVec 4) ≠ 0) ∧
      (retraining.resetN = true ∧ retraining.ltc.link = .exchange ∧ retraining.ltc.partnerSession ≠ 0 ∧
        5 = retraining.ltc.partnerSession ∧ (16 : BitVec 8).toNat = retraining.ltc.requestOffer ∧
        (8 : BitVec 8).toNat = retraining.ltc.writeOffer ∧ (6 : BitVec 4) ≠ retraining.ltc.partnerSession) ∧
      (1 ≤ (1 : BitVec 8).toNat ∧ (32 : BitVec 8).toNat ≤ 32 ∧ (64 : BitVec 8).toNat ≤ 64) := by decide

theorem witness_TrainingFramesInActive :
    busy.resetN = true ∧ busy.ltc.link = .active ∧ busy.ltc.requestOffer < 256 ∧ busy.ltc.writeOffer < 256 ∧
      (4 : BitVec 4) ≠ busy.ltc.partnerSession ∧ Grade.g1 = busy.ltc.staged := by decide

/-- A linked part with a line-loss run. -/
def lossy (run : Nat) (nak : Bool) : State :=
  { linked with lrx := { linked.lrx with lineLossRun := run, nakOpen := nak } }

theorem witness_BadFramesInActive :
    (lossy 6 false).resetN = true ∧ (lossy 6 false).ltc.link = .active ∧ (lossy 6 false).lrx.nakOpen = false ∧
      (lossy 6 true).lrx.nakOpen = true ∧
      (lossy 6 false).lrx.lineLossRun + 1 < (lossy 6 false).lrx.lineLossThreshold.toNat ∧
      (lossy 7 true).lrx.lineLossThreshold.toNat ≤ (lossy 7 true).lrx.lineLossRun + 1 := by decide

theorem witness_FramesDroppedOutsideActive :
    (training .seek 0 none).ltc.link ≠ .active ∧ State.reset.ltc.link = .off ∧
      (training .failed 0 none).ltc.link = .failed := by decide

theorem witness_CompletionTimerExpiryFailsTheEntry :
    busy.resetN = true ∧
      busy.hrt.entries[1] = some (entry 1 (.hwrite [1, 2, 3, 4]) 0x400100 4 1 (.issued 0 50000)) ∧
      busy.hrt.entries[15] = none := by decide +kernel

theorem witness_DiscardTimerExpiryFreesTheEntry :
    busy.resetN = true ∧
      busy.hrt.entries[3] = some (entry 2 (.hwrite [5]) 0x400301 1 1 (.ready none 1024)) ∧
      busy.hrt.entries[4] = some (entry 2 .read 0x400304 4 2 (.failed .remoteFault 1024)) ∧
      busy.hrt.entries[15] = none := by decide +kernel

theorem witness_LinkTimerExpiries :
    busy.resetN = true ∧ busy.ltx.replayTimer ≠ none ∧ busy.ltx.pass = none ∧
      { busy.ltx with pass := some 4 }.pass ≠ none ∧ linked.ltx.replayTimer = none ∧
      { linked.lrx with ackDelayTimer := some 8 }.ackDelayTimer ≠ none ∧ linked.lrx.ackDelayTimer = none ∧
      ((training .align 3 none).ltc.link = .align ∧ (training .align 3 none).ltc.alignTimer = none) ∧
      { (training .align 3 none).ltc with alignTimer := some 20 }.alignTimer ≠ none := by decide

/-- A part that trains, with attempts counted. -/
def attempted (count : Nat) (limit : BitVec 4) (trial : Bool) : State :=
  { training .seek 0 none with
    ltc := { (training .seek 0 none).ltc with attempts := count, attemptLimit := limit, trial := trial } }

theorem witness_SeekWindowExpiryCountsAnAttempt :
    State.reset.ltc.seekTimer = none ∧ (attempted 15 0 false).resetN = true ∧ (attempted 15 0 false).ltc.seekTimer ≠ none ∧
      (attempted 15 0 false).ltc.attemptLimit = 0 ∧
      min 15 ((attempted 6 8 false).ltc.attempts + 1) < (attempted 6 8 false).ltc.attemptLimit.toNat ∧
      ((attempted 7 8 true).ltc.attemptLimit.toNat ≤ min 15 ((attempted 7 8 true).ltc.attempts + 1) ∧
        (attempted 7 8 true).ltc.attemptLimit ≠ 0 ∧ (attempted 7 8 true).ltc.trial = true) ∧
      ((attempted 15 15 false).ltc.attemptLimit.toNat ≤ min 15 ((attempted 15 15 false).ltc.attempts + 1) ∧
        (attempted 15 15 false).ltc.trial = false) := by decide

/-- The busy part under a policy. -/
def selecting (policy : Policy) (last : Path) : State :=
  { busy with reg := { busy.reg with policy := policy }, pwq := { busy.pwq with lastContested := last } }

/-- The busy part with nothing that can go: no write, and no request behind a FREE tag. -/
def nothingToSend : State :=
  { busy with pwq := Pwq.reset, isu := { busy.isu with allowance := 2 } }

theorem witness_NewFrameSlotPostedOrDeclined :
    (∀ s ∈ [selecting .writesFirst .posted, selecting .alternate .held],
      s.resetN = true ∧ s.ltc.link = .active ∧ s.ltx.nkDue = none ∧ s.ltx.akDue = false ∧ s.ltx.pass = none ∧
        s.ltx.buffer.length < 32 ∧ s.pwq.queue = busy.pwq.queue ∧
        (s.isu.sent - s.isu.returned).toNat < s.isu.writeOffer ∧ s.heldCanGo = true ∧
        (s.reg.policy = .writesFirst ∨ s.pwq.lastContested = .held)) ∧
      ({ busy with isu := { busy.isu with allowance := 2 } } : State).heldCanGo = false ∧
      (nothingToSend.heldCanGo = false ∧ nothingToSend.postedCanGo = false) ∧
      retraining.ltc.link ≠ .active ∧ { busy.ltx with nkDue := some 0 }.nkDue ≠ none ∧
      32 ≤ { busy.ltx with buffer := List.replicate 32 frames[0] }.buffer.length := by decide +kernel

theorem witness_NewFrameSlotOfTheHeldPath :
    (∀ s ∈ [{ busy with pwq := Pwq.reset }, selecting .alternate .posted],
      s.resetN = true ∧ s.ltc.link = .active ∧ s.ltx.nkDue = none ∧ s.ltx.akDue = false ∧ s.ltx.pass = none ∧
        s.ltx.buffer.length < 32 ∧ s.heldCanGo = true) ∧
      ({ busy with pwq := Pwq.reset } : State).postedCanGo = false ∧
      ((selecting .alternate .posted).reg.policy = .alternate ∧
        (selecting .alternate .posted).pwq.lastContested = .posted) := by decide +kernel

theorem witness_ArbiterGrantsTheNextEligibleMember :
    grant busy.hrt busy.isu =
        some { requester := 0, pointerA := some (.requester 0), pointerB := none } ∧
      grant (busy.hrt.setRequester 0 fun q => { q with level := .b }) busy.isu =
        some { requester := 0, pointerA := some .bSlot, pointerB := some 0 } ∧
      grant linked.hrt linked.isu = none := by decide +kernel

theorem witness_ControlReplayedAndTrainingFramesSent :
    busy.resetN = true ∧ busy.ltc.link = .active ∧
      ({ busy.ltx with nkDue := some 12 } : Ltx).nkDue = some 12 ∧
      (busy.ltx.nkDue = none ∧ ({ busy.ltx with akDue := true } : Ltx).akDue = true) ∧
      (busy.ltx.akDue = false ∧ busy.ltx.buffer = [frames[0]] ++ frames[1] :: [] ∧
        ({ busy.ltx with pass := some 4 } : Ltx).pass = some frames[1].number ∧
        (∀ g ∈ [frames[0]], g.number ≠ frames[1].number)) ∧
      ((training .seek 0 none).resetN = true ∧ (training .seek 0 none).ltc.current = .g1 ∧
        (training .seek 0 none).ltc.link = .seek) ∧
      (training .align 0 none).ltc.link = .align ∧ (training .exchange 0 none).ltc.link = .exchange := by
  decide +kernel

theorem witness_FramesOnTheReceivePairBecomeTheirCommands :
    (linked.resetN = true ∧ linked.pending = [] ∧ linked.lrx.framing = none) ∧
      -- an accepted CP with data, and one with every ignored bit set
      (withCrc [0x40, 13, 0, 2, 9, 8] = [0x40, 13, 0, 2, 9, 8] ++ [0x10, 0x8A] ∧
        [0x40, 13, 0, 2, 9, 8] =
          [(0x4#4 ++ 0#2 ++ 0#2 : Byte), 13, 0, BitVec.ofNat 8 ([9, 8] : List Byte).length] ++ [9, 8]) ∧
      ([0x4D, 0x8D, 0xFF, 0] : List Byte) = [(0x4#4 ++ 3#2 ++ 1#2 : Byte), 0x8D, 0xFF, BitVec.ofNat 8 0] ∧
      ((0x8D : Byte).extractLsb' 0 7 = 13 ∧ ((0xFF : Byte).extractLsb' 0 5).toFin = 31) ∧
      (List.replicate 64 (7 : Byte)).length ≤ 64 ∧
      -- rejected forms at both ends of their sizes, and a CRC that does not fit
      ((List.replicate 6 (7 : Byte)).length = ((0xC0 : Byte).extractLsb' 0 6).toNat + 6 ∧
        (List.replicate 69 (7 : Byte)).length = ((0xFF : Byte).extractLsb' 0 6).toNat + 6) ∧
      ([0x3C, 0xC3, 0x5A, 0xA5, 0x0F, 0xF1] : List Byte) ≠ [0x3C, 0xC3, 0x5A, 0xA5, 0x0F, 0xF0] ∧
      [0x40, 13, 0, 2, 9, 8] ++ [0x10, 0x8B] ≠ withCrc [0x40, 13, 0, 2, 9, 8] ∧
      -- a length that cannot be computed, and a frame that is cut
      ((0xF3 : Byte).extractLsb' 4 4 ∈ [0x0#4, 0x6#4, 0x7#4, 0xB#4, 0xF#4] ∧
        (0x43 : Byte).extractLsb' 4 4 = 0x4#4 ∧ 64 < (65 : Byte).toNat) ∧
      { linked.lrx with framing := some [0x40, 13] }.framing = some [0x40, 13] := by decide +kernel

theorem witness_FramesOnTheReceivePairBecomeTheirCommands_cut :
    (after 5 { linked with rxLine := [.byte 7, .start, .byte 0x40, .byte 13, .start] }).map
        (fun t => (t.pending, t.lrx.framing)) = some ([.corruptFrameReceived], some []) := by decide +kernel

theorem witness_StepKeepsInterruptLines :
    busy.evu.consistent ∧ ((after 1 { busy with pending := [.disable] }).map fun t => t.evu.localPending) =
      some 0x0B := by decide +kernel

theorem witness_StepKeepsHeldTable :
    busy.hrt.consistent ∧
      ((after 1 { busy with pending := [.discardTimerExpiry 3] }).map fun t => t.hrt.entries[3]) = some none := by
  decide +kernel

theorem witness_StepKeepsWritesOrdered :
    busy.writesOrdered ∧ ((after 1 { busy with pending := [.newFrameSlot] }).map fun t => t.pwq.queue) = some [] := by
  decide +kernel

theorem witness_StepKeepsTagsAndCredits :
    busy.ledgerKept ∧ ((after 1 { busy with pending := [.newFrameSlot] }).map fun t => t.isu.sent) = some 251 := by
  decide +kernel

theorem witness_StepKeepsReplayBuffer :
    busy.replayKept ∧ ((after 1 { busy with pending := [.nkReceived 2] }).map fun t => t.ltx.pass) = some (some 3) := by
  decide +kernel

theorem witness_StepKeepsDownLinkEmpty :
    busy.downEmpty ∧ State.reset.downEmpty ∧
      ((after 1 { busy with pending := [.disable] }).map fun t => t.ltx.buffer) = some [] := by decide +kernel

theorem witness_StepKeepsControlsTrainingAndChipReset :
    busy.controlsInRange ∧ busy.ltc.trainingKept ∧ (training .align 3 (some 0)).ltc.trainingKept ∧
      busy.heldWhileLow ∧ low.heldWhileLow ∧
      ((after 1 { busy with pending := [.retrain] }).map fun t => t.ltc.link) = some .seek := by decide +kernel

theorem witness_StepKeepsDataLengths :
    busy.dataFits ∧ ({ busy with pending := [.cpReceived 13 0 .ok []] } : State).dataFits ∧
      ((after 1 { busy with pending := [.cpReceived 13 0 .ok []] }).map fun t => t.hrt.entries[1].map Held.phase) =
        some (some (.ready none 1024)) := by decide +kernel

end Sys2Proof.Tests
end

section
/-! SUPPORT. The intake of an aperture transfer, one law per step of Table 1-9 on the way to a return and to a creation,
and the obligations about returns that leave their entry (O24) and about creation (O28). -/

namespace Sys2Proof.Machine

/-! ### Which step of the intake answers -/

theorem exec_apertureTransfer_high {s : State} (hreset : s.resetN = true) (r : Fin 8) (d : Direction) (o : BitVec 28)
    (n : Nat) (data : List Byte) :
    exec (.apertureTransfer r d o n data) s =
      .next (s.intake { requester := r, direction := d, offset := o, size := n, data := data }) :=
  State.hostTransfer_high hreset _

/-- Step 2 answers a transfer whose key an entry holds (R6). -/
theorem State.intake_of_entry {s : State} {x : Transfer} {e : Fin 16} {h : Held}
    (hsize : sizeRule x.offset x.size = true) (hd : s.hrt.keysDistinct) (he : s.hrt.entries[e] = some h)
    (hk : h.key = x.key) : s.intake x = s.returnTo x e h := by
  have found : s.hrt.entryWithKey x.key = some (e, h) := hk ▸ Hrt.entryWithKey_of_distinct hd he
  simp [State.intake, hsize, found]

/-- A transfer that is no return reaches step 4 unless intake hold is set (R11). -/
theorem State.intake_of_no_entry {s : State} {x : Transfer} (hsize : sizeRule x.offset x.size = true)
    (hn : ∀ f : Fin 16, ∀ h ∈ s.hrt.entries[f], h.key ≠ x.key) (hhold : s.reg.intakeHold = false) :
    s.intake x = s.decodeStep x := by
  simp [State.intake, hsize, Hrt.entryWithKey_none.mpr hn, hhold]

/-! ### Returns (R7, R10) -/

theorem mismatch_eq_true_iff {x : Transfer} {h : Held} :
    mismatch x h = true ↔ ∃ held, h.kind = .hwrite held ∧ held ≠ x.data := by
  unfold mismatch
  cases h.kind <;> simp

theorem mismatch_eq_false_iff {x : Transfer} {h : Held} :
    mismatch x h = false ↔ h.kind = .read ∨ h.kind = .hwrite x.data := by
  unfold mismatch
  cases h.kind <;> simp

theorem Held.inFlight_iff {h : Held} :
    h.inFlight = true ↔ (∃ k, h.phase = .queued k) ∨ ∃ tag k, h.phase = .issued tag k := by
  unfold Held.inFlight
  cases h.phase <;> simp

theorem State.returnTo_of_mismatch {x : Transfer} {h : Held} (hm : mismatch x h = true) (e : Fin 16) (s : State) :
    s.returnTo x e h = s.refuse
      { kind := .returnMismatch, requester := some x.requester, offset := some x.offset, window := some h.window
        entry := some e } := by
  rw [State.returnTo, if_pos hm]

theorem State.returnTo_of_inFlight {x : Transfer} {h : Held} (hm : mismatch x h = false) (hf : h.inFlight = true)
    (e : Fin 16) (s : State) : s.returnTo x e h = s.answered .comeback := by
  rcases Held.inFlight_iff.mp hf with ⟨k, hp⟩ | ⟨tag, k, hp⟩ <;> simp [State.returnTo, hm, hp]

/-- Settles O24: the key leads the intake to the one entry that holds it, and the entry's kind and phase decide the
answer there. -/
theorem returnsThatLeaveTheEntry : Obligations.ReturnsThatLeaveTheEntry := by
  intro s r d o n data e h hreset hsize hd he hk
  have toEntry : exec (.apertureTransfer r d o n data) s =
      .next (s.returnTo { requester := r, direction := d, offset := o, size := n, data := data } e h) :=
    (exec_apertureTransfer_high hreset r d o n data).trans (congrArg _ (State.intake_of_entry hsize hd he hk))
  rw [toEntry]
  constructor
  · intro hphase hkind
    rw [State.returnTo_of_inFlight (mismatch_eq_false_iff.mpr hkind) (Held.inFlight_iff.mpr hphase)]
    rfl
  · intro held hkind hne
    rw [State.returnTo_of_mismatch (mismatch_eq_true_iff.mpr ⟨held, hkind, hne⟩)]
    rfl

/-! ### Creation (R12 to R16) -/

theorem State.linkDown_eq_false_iff {s : State} : s.linkDown = false ↔ s.ltc.link ≠ .off ∧ s.ltc.link ≠ .failed := by
  simp [State.linkDown]

theorem Requester.atLimit_eq_false_iff {q : Requester} : q.atLimit = false ↔ q.heldCount < q.heldLimit.toNat := by
  simp [Requester.atLimit]

/-- A read, and a write to a STRICT window, become a held request (R12, R38). -/
theorem State.decodeStep_of_held {s : State} {x : Transfer} {hit : Hit} (hdec : decodeOffset s.win x.offset = some hit)
    (hheld : x.direction = .read ∨ hit.mode = .strict) : s.decodeStep x = s.holdRequest x hit := by
  rcases hheld with hread | hstrict
  · simp [State.decodeStep, hdec, hread]
  · cases hdir : x.direction <;> simp [State.decodeStep, hdec, hdir, hstrict]

theorem State.holdRequest_of_up {s : State} {x : Transfer} (hup : s.linkDown = false)
    (hl : s.hrt.requesters[x.requester].lapsed = false) (hit : Hit) : s.holdRequest x hit = s.createEntry x hit := by
  rw [State.holdRequest, hup, hl]
  rfl

theorem State.createEntry_of_free {s : State} {x : Transfer} {e : Fin 16}
    (hlimit : s.hrt.requesters[x.requester].atLimit = false) (hfree : s.hrt.lowestFree = some e) (hit : Hit) :
    s.createEntry x hit = { s with hrt := s.hrt.create e x hit s.pwq.queue.length }.answered .comeback := by
  rw [State.createEntry, hlimit, hfree]
  rfl

/-- A transfer that no step turns away passes down to step 8 and is created in the lowest FREE entry (R16). -/
theorem State.intake_creates {s : State} {x : Transfer} {hit : Hit} {e : Fin 16}
    (hsize : sizeRule x.offset x.size = true) (hn : ∀ f : Fin 16, ∀ h ∈ s.hrt.entries[f], h.key ≠ x.key)
    (hhold : s.reg.intakeHold = false) (hdec : decodeOffset s.win x.offset = some hit)
    (hheld : x.direction = .read ∨ hit.mode = .strict) (hup : s.linkDown = false)
    (hl : s.hrt.requesters[x.requester].lapsed = false) (hlimit : s.hrt.requesters[x.requester].atLimit = false)
    (hfree : s.hrt.lowestFree = some e) :
    s.intake x = { s with hrt := s.hrt.create e x hit s.pwq.queue.length }.answered .comeback :=
  calc s.intake x
    _ = s.decodeStep x := State.intake_of_no_entry hsize hn hhold
    _ = s.holdRequest x hit := State.decodeStep_of_held hdec hheld
    _ = s.createEntry x hit := State.holdRequest_of_up hup hl hit
    _ = _ := State.createEntry_of_free hlimit hfree hit

/-- Settles O28: the hypotheses are those of a transfer that no step turns away, with `e` the lowest FREE entry. -/
theorem creationTakesLowestFreeEntry : Obligations.CreationTakesLowestFreeEntry := by
  intro s r d o n data hit e hreset hsize hn hhold hdec hheld hoff hfailed hl hlimit he hlow
  have hup : s.linkDown = false := State.linkDown_eq_false_iff.mpr ⟨hoff, hfailed⟩
  have hroom : s.hrt.requesters[r].atLimit = false := Requester.atLimit_eq_false_iff.mpr hlimit
  have hfree : s.hrt.lowestFree = some e := Hrt.lowestFree_eq_some.mpr ⟨he, hlow⟩
  exact (exec_apertureTransfer_high hreset r d o n data).trans
    (congrArg _ (State.intake_creates hsize hn hhold hdec hheld hup hl hroom hfree))

end Sys2Proof.Machine
end

section
/-! SUPPORT. Rounding down to a multiple of a power of two, as the windows do for their effective bases, and the obligation
about effective bases and the decode (O22). -/

namespace Sys2Proof.Machine

/-! ### Rounding down to a power of two -/

/-- Shifting the low bits out and back rounds down to a multiple of their power of two. -/
theorem toNat_ushiftRight_shiftLeft {n : Nat} (x : BitVec n) (k : Nat) :
    ((x >>> k) <<< k).toNat = x.toNat / 2 ^ k * 2 ^ k := by
  have noLoss : x.toNat / 2 ^ k * 2 ^ k < 2 ^ n := Nat.lt_of_le_of_lt (Nat.div_mul_le_self _ _) x.isLt
  rw [BitVec.toNat_shiftLeft, BitVec.toNat_ushiftRight, Nat.shiftRight_eq_div_pow, Nat.shiftLeft_eq,
    Nat.mod_eq_of_lt noLoss]

/-- A block of `2 ^ k` that starts at a multiple of `2 ^ k` ends within the `n`-bit space. -/
theorem div_mul_two_pow_add_le {n k : Nat} (hk : k ≤ n) (x : BitVec n) :
    x.toNat / 2 ^ k * 2 ^ k + 2 ^ k ≤ 2 ^ n := by
  have blocks : 2 ^ n = 2 ^ (n - k) * 2 ^ k := by rw [← Nat.pow_add, Nat.sub_add_cancel hk]
  have hlt : x.toNat / 2 ^ k < 2 ^ (n - k) :=
    Nat.div_lt_of_lt_mul (by rw [Nat.mul_comm, ← blocks]; exact x.isLt)
  calc x.toNat / 2 ^ k * 2 ^ k + 2 ^ k
    _ = (x.toNat / 2 ^ k + 1) * 2 ^ k := (Nat.succ_mul _ _).symm
    _ ≤ 2 ^ (n - k) * 2 ^ k := Nat.mul_le_mul_right _ hlt
    _ = 2 ^ n := blocks.symm

/-- Rounding down leaves the bits above the ignored ones as they are. -/
theorem extractLsb'_ushiftRight_shiftLeft {n k a : Nat} (hk : k ≤ a) (len : Nat) (x : BitVec n) :
    ((x >>> k) <<< k).extractLsb' a len = x.extractLsb' a len := by
  ext i hi
  have kept : ¬ a + i < k := by omega
  have sameBit : ((x >>> k) <<< k).getLsbD (a + i) = x.getLsbD (a + i) := by
    rw [BitVec.getLsbD_shiftLeft, BitVec.getLsbD_ushiftRight, Nat.add_sub_cancel' (by omega)]
    by_cases hn : a + i < n
    · simp [hn, kept]
    · simp [hn, BitVec.getLsbD_of_ge x (a + i) (Nat.not_lt.mp hn)]
  simpa [hi] using sameBit

/-! ### Effective bases (R34) -/

/-- The sizes of Table 2-2 run from 4 KiB in twofold steps. -/
theorem Window.size_eq (w : Window) : w.size = 4096 * 2 ^ w.sizeCode.val := by
  rw [Window.size, Window.lowBits, Nat.pow_add]

/-- No window is larger than the aperture. -/
theorem Window.lowBits_le (w : Window) : w.lowBits ≤ 28 := by
  have := w.sizeCode.isLt
  rw [Window.lowBits]
  omega

theorem Window.effectiveBase_toNat (w : Window) : w.effectiveBase.toNat = w.base.toNat / w.size * w.size :=
  toNat_ushiftRight_shiftLeft w.base w.lowBits

theorem Window.effectiveRemote_toNat (w : Window) :
    w.effectiveRemote.toNat = w.remoteBase.toNat / w.size * w.size :=
  toNat_ushiftRight_shiftLeft w.remoteBase w.lowBits

theorem Window.effectiveBase_add_size_le (w : Window) : w.effectiveBase.toNat + w.size ≤ 2 ^ 28 := by
  rw [Window.effectiveBase_toNat]
  exact div_mul_two_pow_add_le w.lowBits_le w.base

theorem Window.effectiveRemote_add_size_le (w : Window) : w.effectiveRemote.toNat + w.size ≤ 2 ^ 40 := by
  rw [Window.effectiveRemote_toNat]
  exact div_mul_two_pow_add_le (Nat.le_trans w.lowBits_le (by decide)) w.remoteBase

/-- No size reaches the bits of the remote base high register. -/
theorem Window.effectiveRemote_high (w : Window) :
    w.effectiveRemote.extractLsb' 32 8 = w.remoteBase.extractLsb' 32 8 :=
  extractLsb'_ushiftRight_shiftLeft (Nat.le_trans w.lowBits_le (by decide)) 8 w.remoteBase

/-! ### Decode and translation (R36, R37) -/

/-- The translation of a covered offset does not wrap: the window ends within the remote address space. -/
theorem Window.translate_toNat {w : Window} {o : BitVec 28} (h : w.covers o = true) :
    (w.translate o).toNat = w.effectiveRemote.toNat + (o.toNat - w.effectiveBase.toNat) := by
  obtain ⟨-, hle, hlt⟩ := Window.covers_iff.mp h
  have hend := w.effectiveRemote_add_size_le
  have hdist : (o - w.effectiveBase).toNat = o.toNat - w.effectiveBase.toNat :=
    BitVec.toNat_sub_of_le (BitVec.le_def.mpr hle)
  have hwiden : ((o - w.effectiveBase).setWidth 40).toNat = o.toNat - w.effectiveBase.toNat := by
    rw [BitVec.toNat_setWidth_of_le (by decide), hdist]
  rw [Window.translate, BitVec.toNat_add_of_lt (by rw [hwiden]; omega), hwiden]

/-- Settles O22: the effective bases are a rounding by shifts, and `found` is the match that the search for the lowest
window tests. -/
theorem windowsDecodeByEffectiveBases : Obligations.WindowsDecodeByEffectiveBases := by
  refine ⟨fun w => ⟨w.size_eq, w.effectiveBase_toNat, w.effectiveRemote_toNat, w.effectiveBase_add_size_le,
    w.effectiveRemote_add_size_le, w.effectiveRemote_high⟩, fun win o found hfound => ?_⟩
  have hcovers : ∀ w : Fin 8, found w = win[w].covers o := fun w =>
    Bool.eq_iff_iff.mpr ((hfound w).trans Window.covers_iff.symm)
  simp only [hcovers]
  exact ⟨decodeOffset_eq_none, fun w hw hlow =>
    ⟨_, decodeOffset_eq_some hw hlow, rfl, rfl, rfl, Window.translate_toNat hw⟩⟩

end Sys2Proof.Machine
end

section
/-! SUPPORT. The posted write queue's answer to a write that intake hands to it, one law per case of R46, and the obligation
about these answers (O29). -/

namespace Sys2Proof.Machine

/-- Step 4 hands a write to a POSTED window to the queue (R12). -/
theorem State.decodeStep_of_posted {s : State} {x : Transfer} {hit : Hit} (hdec : decodeOffset s.win x.offset = some hit)
    (hwrite : x.direction = .write) (hposted : hit.mode = .posted) : s.decodeStep x = s.acceptPosted x hit := by
  simp [State.decodeStep, hdec, hwrite, hposted]

theorem State.linkDown_eq_true_iff {s : State} : s.linkDown = true ↔ s.ltc.link = .off ∨ s.ltc.link = .failed := by
  simp [State.linkDown]

theorem State.acceptPosted_of_down {s : State} (hdown : s.linkDown = true) (x : Transfer) (hit : Hit) :
    s.acceptPosted x hit = s.refuse
      { kind := .linkDownRequest, requester := some x.requester, offset := some x.offset, window := some hit.window } := by
  rw [State.acceptPosted, if_pos hdown]

theorem State.acceptPosted_of_full {s : State} (hup : s.linkDown = false) (hfull : 16 ≤ s.pwq.queue.length)
    (x : Transfer) (hit : Hit) : s.acceptPosted x hit = s.answered .comeback := by
  rw [State.acceptPosted, if_neg (Bool.eq_false_iff.mp hup), if_pos hfull]

theorem State.acceptPosted_of_room {s : State} (hup : s.linkDown = false) (hroom : s.pwq.queue.length < 16)
    (x : Transfer) (hit : Hit) :
    s.acceptPosted x hit =
      { s with pwq := { s.pwq with queue := s.pwq.queue ++ [x.postedWrite hit] } }.answered (.done []) := by
  rw [State.acceptPosted, if_neg (Bool.eq_false_iff.mp hup), if_neg (Nat.not_le.mpr hroom)]

/-- Settles O29: the write passes intake down to the queue, and the link and the occupancy decide the answer there. -/
theorem postedWriteAnswers : Obligations.PostedWriteAnswers := by
  intro s r o n data hit hreset hsize hn hhold hdec hposted
  have toQueue : exec (.apertureTransfer r .write o n data) s = .next (s.acceptPosted
      { requester := r, direction := .write, offset := o, size := n, data := data } hit) :=
    (exec_apertureTransfer_high hreset r .write o n data).trans (congrArg _
      ((State.intake_of_no_entry hsize hn hhold).trans (State.decodeStep_of_posted hdec rfl hposted)))
  rw [toQueue]
  refine ⟨fun hdown => ?down, fun hoff hfailed hfull => ?full, fun hoff hfailed hroom => ?room⟩
  case down =>
    rw [State.acceptPosted_of_down (State.linkDown_eq_true_iff.mpr hdown)]
    rfl
  case full =>
    rw [State.acceptPosted_of_full (State.linkDown_eq_false_iff.mpr ⟨hoff, hfailed⟩) hfull]
    rfl
  case room =>
    rw [State.acceptPosted_of_room (State.linkDown_eq_false_iff.mpr ⟨hoff, hfailed⟩) hroom]
    rfl

end Sys2Proof.Machine
end

section
/-! SUPPORT. An accepted frame in ACTIVE as its owner finds it, what ISU does with a CP and with a CR, one law per case, and
the obligations about late and unknown tags (O32) and about credit returns (O36). -/

namespace Sys2Proof.Machine

/-! ### The way of an accepted frame to its owner -/

/-- A powered part in ACTIVE ends the line-loss run and hands the frame on (R101, R125). -/
theorem State.powered_accepted_active {s : State} (hreset : s.resetN = true) (hactive : s.ltc.link = .active)
    (f g : State → State) : s.powered (State.accepted f g) = .next (f s.goodFrame) := by
  rw [State.powered_high hreset, State.accepted_active hactive]

/-- The owner of the expected frame gets it after LRX's part of the delivery (R121). -/
theorem State.sequenced_expected {s : State} {n : BitVec 7} (h : n = s.lrx.expected) (owner : State → State) :
    s.sequenced n owner = owner s.delivered := by
  rw [State.sequenced, if_pos h]

theorem exec_cpReceived_expected {s : State} (hreset : s.resetN = true) (hactive : s.ltc.link = .active)
    (tag : Fin 32) (st : CpStatus) (data : List Byte) :
    exec (.cpReceived s.lrx.expected tag st data) s = .next (s.goodFrame.delivered.takeCompletion tag st data) := by
  have expected : s.lrx.expected = s.goodFrame.lrx.expected := rfl
  rw [exec_cpReceived, execCpReceived, State.powered_accepted_active hreset hactive,
    State.sequenced_expected expected]

theorem exec_crReceived_active {s : State} (hreset : s.resetN = true) (hactive : s.ltc.link = .active)
    (total : BitVec 8) : exec (.crReceived total) s = .next (s.goodFrame.takeCredits total) :=
  State.powered_accepted_active hreset hactive _ _

/-! ### ISU takes a CP (R69, R70) -/

theorem State.takeCompletion_of_quarantined {s : State} {tag : Fin 32} (hlt : tag.val < s.isu.allowance)
    (hq : s.isu.tags[tag] = .quarantined) (st : CpStatus) (data : List Byte) :
    s.takeCompletion tag st data = s.lateCompletion tag := by
  rw [State.takeCompletion, if_neg (Nat.not_le.mpr hlt), hq]

/-- The allowance decides before the tag's state: a tag at or above it is bad whatever it is. -/
theorem State.takeCompletion_of_bad {s : State} {tag : Fin 32}
    (hbad : s.isu.allowance ≤ tag.val ∨ s.isu.tags[tag] = .free) (st : CpStatus) (data : List Byte) :
    s.takeCompletion tag st data = s.badTag tag := by
  rw [State.takeCompletion]
  by_cases habove : s.isu.allowance ≤ tag.val
  · rw [if_pos habove]
  · rw [if_neg habove, hbad.resolve_left habove]

/-- Settles O32: delivery leaves ISU as it stood, so the tag's state there decides what ISU does with the completion. -/
theorem lateAndBadTagCompletions : Obligations.LateAndBadTagCompletions := by
  intro s tag st data hreset hactive
  have sameIsu : s.goodFrame.delivered.isu = s.isu := rfl
  rw [exec_cpReceived_expected hreset hactive]
  constructor
  · intro hlt hquarantined
    rw [State.takeCompletion_of_quarantined (sameIsu ▸ hlt) (sameIsu ▸ hquarantined)]
    rfl
  · intro hbad
    rw [State.takeCompletion_of_bad (sameIsu ▸ hbad)]
    rfl

/-! ### ISU takes a CR (R77) -/

theorem State.takeCredits_of_within {s : State} {total : BitVec 8} (h : s.isu.advance total ≤ s.isu.creditsInUse) :
    s.takeCredits total = { s with isu := { s.isu with returned := total } } := by
  rw [State.takeCredits, if_pos h]

/-- A total has eight bits, so the detail field of the record holds it whole. -/
theorem State.takeCredits_of_overrun {s : State} {total : BitVec 8} (h : s.isu.creditsInUse < s.isu.advance total) :
    s.takeCredits total = s.report { kind := .creditOverrun, detail := some (total.setWidth 16) } := by
  rw [State.takeCredits, if_neg (Nat.not_le.mpr h), detailOf, BitVec.ofNat_toNat]

/-- Settles O36: the two clauses compare the advance with the credits in use, which a good frame leaves alone. -/
theorem creditReturnCases : Obligations.CreditReturnCases := by
  intro s total hreset hactive
  rw [exec_crReceived_active hreset hactive]
  constructor
  · intro (hwithin : s.goodFrame.isu.advance total ≤ s.goodFrame.isu.creditsInUse)
    rw [State.takeCredits_of_within hwithin]
    rfl
  · intro (hoverrun : s.goodFrame.isu.creditsInUse < s.goodFrame.isu.advance total)
    rw [State.takeCredits_of_overrun hoverrun]
    rfl

end Sys2Proof.Machine
end

section
/-! SUPPORT. A PM in EXCHANGE that passes the checks of Table 7-7: one law per outcome, what a session start, a return to
ACTIVE and a fresh start after teardown leave, and the obligation about valid parameters (O39). -/

namespace Sys2Proof.Machine

/-! ### The way of a valid PM to its outcome -/

/-- A powered part outside ACTIVE hands an accepted frame to training as it finds the state (R102). -/
theorem State.powered_accepted_training {s : State} (hreset : s.resetN = true) (hlink : s.ltc.link ≠ .active)
    (f g : State → State) : s.powered (State.accepted f g) = .next (g s) := by
  rw [State.powered_high hreset, State.accepted_training hlink]

/-- A check of a list of checks lets its number out, or leaves the answer to the checks after it. -/
theorem checkThen_eq_none_iff {p : Prop} [Decidable p] {number : Nat} {later : Option Nat} :
    (if p then some number else later) = none ↔ ¬p ∧ later = none := by
  by_cases h : p
  · rw [if_pos h]
    exact ⟨fun found => (nomatch found), fun passed => absurd h passed.1⟩
  · rw [if_neg h]
    exact ⟨fun rest => ⟨h, rest⟩, And.right⟩

theorem Ltc.failedCheck_eq_none_iff {c : Ltc} {n : BitVec 4} {g : Grade} {q w : BitVec 8} :
    c.failedCheck n g q w = none ↔
      g = c.current ∧ n ≠ 0 ∧ (1 ≤ q.toNat ∧ q.toNat ≤ 32) ∧ (1 ≤ w.toNat ∧ w.toNat ≤ 64) := by
  have inRange (m k : Nat) : ¬(m = 0 ∨ k < m) ↔ 1 ≤ m ∧ m ≤ k := by omega
  rw [Ltc.failedCheck, checkThen_eq_none_iff, checkThen_eq_none_iff, checkThen_eq_none_iff, checkThen_eq_none_iff,
    inRange, inRange, Decidable.not_not, and_iff_left (rfl : (none : Option Nat) = none)]

theorem Ltc.matchesSession_iff {c : Ltc} {n : BitVec 4} {q w : BitVec 8} :
    c.matchesSession n q w = true ↔
      n = c.partnerSession ∧ q.toNat = c.requestOffer ∧ w.toNat = c.writeOffer := by
  simp only [Ltc.matchesSession, Bool.and_eq_true, beq_iff_eq, and_assoc]

theorem State.trainPm_of_valid {s : State} {n : BitVec 4} {g : Grade} {q w : BitVec 8} (hlink : s.ltc.link = .exchange)
    (hvalid : s.ltc.failedCheck n g q w = none) : s.trainPm n g q w = s.validPm n q w := by
  simp only [State.trainPm, hlink, hvalid]

theorem exec_pmReceived_valid {s : State} {n : BitVec 4} {g : Grade} {q w : BitVec 8} (hreset : s.resetN = true)
    (hlink : s.ltc.link = .exchange) (hvalid : s.ltc.failedCheck n g q w = none) :
    exec (.pmReceived n g q w) s = .next (s.validPm n q w) := by
  have outside : s.ltc.link ≠ .active := by rw [hlink]; decide
  rw [exec_pmReceived, execPmReceived, State.powered_accepted_training hreset outside,
    State.trainPm_of_valid hlink hvalid]

/-! ### The three outcomes of a valid PM (R141, R142) -/

theorem State.validPm_of_no_session {s : State} (hnone : s.ltc.partnerSession = 0) (n : BitVec 4) (q w : BitVec 8) :
    s.validPm n q w = s.startSession n q.toNat w.toNat := by
  rw [State.validPm, if_pos hnone]

theorem State.validPm_of_match {s : State} {n : BitVec 4} {q w : BitVec 8} (hstands : s.ltc.partnerSession ≠ 0)
    (hmatch : s.ltc.matchesSession n q w = true) : s.validPm n q w = s.resumeSession := by
  rw [State.validPm, if_neg hstands, if_pos hmatch]

theorem State.validPm_of_mismatch {s : State} {n : BitVec 4} {q w : BitVec 8} (hstands : s.ltc.partnerSession ≠ 0)
    (hmatch : ¬ s.ltc.matchesSession n q w = true) : s.validPm n q w = s.teardown.freshStart := by
  rw [State.validPm, if_neg hstands, if_neg hmatch]

/-! ### What the outcomes leave -/

/-- LTX replays whatever the session left unacknowledged, oldest first; with nothing left no pass starts (R117). -/
theorem Ltx.returnToActive_eq (x : Ltx) :
    x.returnToActive =
      if x.buffer = [] then { x with shortRetry := 0, replayTimer := none, akDue := true }
      else
        { x with
          shortRetry := 0
          replayTimer := none
          akDue := true
          pass := x.buffer.head?.map SentFrame.number
          replayCounter := x.replayCounter + 1
          wrapFlag := x.wrapFlag || decide (x.replayCounter = 0xFFFF) } := by
  by_cases hempty : x.buffer = []
  · rw [if_pos hempty, Ltx.returnToActive, hempty]
    rfl
  · rw [if_neg hempty, Ltx.returnToActive, if_neg (mt List.isEmpty_iff.mp hempty)]
    rfl

/-- Teardown has already cleared the runs, the align count timer and the partner's session, so a fresh start after it sets
only the rest (R132, R134, R153). -/
theorem Ltc.freshStart_teardown (c : Ltc) :
    c.teardown.freshStart =
      { c.teardown with
        link := .seek
        ourSession := if c.ourSession = 15 then 1 else c.ourSession + 1
        current := c.staged
        trial := c.trial || decide (c.staged ≠ c.current)
        seekTimer := some (c.seekWindow.toNat * 100) } := by
  have trialOf : (c.staged != c.current) = decide (c.staged ≠ c.current) := decide_not.symm
  rw [← trialOf]
  rfl

/-- Settles O39: a PM that fails no check goes to one of three outcomes, as LTC has no session, the session of the PM, or
another one. -/
theorem validParametersStartResumeOrEndTheSession : Obligations.ValidParametersStartResumeOrEndTheSession := by
  intro s n q w hreset hlink hn hq1 hq32 hw1 hw64
  have hvalid : s.ltc.failedCheck n s.ltc.current q w = none :=
    Ltc.failedCheck_eq_none_iff.mpr ⟨rfl, hn, ⟨hq1, hq32⟩, hw1, hw64⟩
  rw [exec_pmReceived_valid hreset hlink hvalid]
  refine ⟨fun hnone => ?start, fun hstands hsame => ?resume, fun hstands hother => ?mismatch⟩
  case start =>
    rw [State.validPm_of_no_session hnone]
    rfl
  case resume =>
    rw [State.validPm_of_match hstands (Ltc.matchesSession_iff.mpr hsame), ← Ltx.returnToActive_eq]
    rfl
  case mismatch =>
    have hdiffers : ¬ s.ltc.matchesSession n q w = true := by
      rw [Ltc.matchesSession_iff]
      intro ⟨sameNumber, sameRequest, sameWrite⟩
      rcases hother with otherNumber | otherRequest | otherWrite
      · exact otherNumber sameNumber
      · exact otherRequest sameRequest
      · exact otherWrite sameWrite
    rw [State.validPm_of_mismatch hstands hdiffers, State.freshStart, State.teardown_ltc, Ltc.freshStart_teardown]

end Sys2Proof.Machine
end

section
/-! SUPPORT. What the clears of the event unit, of the requester table and of the wrap flag leave, flag by flag, and the
obligations about the clear rows (O18) and about the fault record (O19). -/

namespace Sys2Proof.Machine

/-! ### The lines -/

theorem Evu.drive_intA (e : Evu) : e.drive.intA = e.drive.onLineA := rfl
theorem Evu.drive_intB (e : Evu) : e.drive.intB = e.drive.onLineB := rfl

/-! ### W1C clears (R157, R161) -/

theorem Evu.clearRemote_remotePending (marks : BitVec 16) (e : Evu) (n : Fin 16) :
    (e.clearRemote marks).remotePending.getLsbD n = (e.remotePending.getLsbD n && !marks.getLsbD n) := by
  have cleared : (e.clearRemote marks).remotePending = e.remotePending &&& ~~~marks := rfl
  rw [cleared, BitVec.getLsbD_and, BitVec.getLsbD_not, decide_eq_true n.isLt, Bool.true_and]

theorem Evu.clearRemote_remoteRepeat (marks : BitVec 16) (e : Evu) (n : Fin 16) :
    (e.clearRemote marks).remoteRepeat[n] = if marks.getLsbD n then 0 else e.remoteRepeat[n] :=
  Vector.getElem_ofFn n.isLt

theorem Evu.clearLocal_localPending (marks : BitVec 8) (e : Evu) (k : Fin 8) :
    (e.clearLocal marks).localPending.getLsbD k = (e.localPending.getLsbD k && !marks.getLsbD k) := by
  have cleared : (e.clearLocal marks).localPending = e.localPending &&& ~~~marks := rfl
  rw [cleared, BitVec.getLsbD_and, BitVec.getLsbD_not, decide_eq_true k.isLt, Bool.true_and]

/-! ### The rows of the clears -/

/-- The held limit is the written one, moved into 1 to 4 (R25). -/
theorem oneToFour_eq_clamp : ∀ x : BitVec 3, oneToFour x = BitVec.ofNat 3 (max 1 (min 4 x.toNat)) := by
  decide

theorem exec_clearLapse_high {s : State} (hreset : s.resetN = true) (r : Fin 8) (level : Level) (limit : BitVec 3) :
    exec (.clearLapse r level limit) s = .next ((s.writeRequester r level limit true).answered (.done [])) :=
  State.takenWrite_high hreset _

theorem exec_clearWrapFlag_high {s : State} (hreset : s.resetN = true) :
    exec .clearWrapFlag s = .next (s.clearWrapFlag.answered (.done [])) :=
  State.takenWrite_high hreset _

theorem exec_clearRemoteSource_high {s : State} (hreset : s.resetN = true) (marks : BitVec 16) :
    exec (.clearRemoteSource marks) s = .next ({ s with evu := s.evu.clearRemote marks }.answered (.done [])) :=
  State.takenWrite_high hreset fun s => { s with evu := s.evu.clearRemote marks }

theorem exec_clearLocalCause_high {s : State} (hreset : s.resetN = true) (marks : BitVec 8) :
    exec (.clearLocalCause marks) s = .next ({ s with evu := s.evu.clearLocal marks }.answered (.done [])) :=
  State.takenWrite_high hreset fun s => { s with evu := s.evu.clearLocal marks }

theorem exec_faultRecordClear_high {s : State} (hreset : s.resetN = true) :
    exec .faultRecordClear s = .next ({ s with evu := s.evu.emptyFault }.answered (.done [])) :=
  State.takenWrite_high hreset fun s => { s with evu := s.evu.emptyFault }

/-- A requester record written with the clear-lapse indication, field by field (R25, R27). -/
theorem Requester.write_clearLapse (level : Level) (limit : BitVec 3) (q : Requester) :
    q.write level limit true =
      { q with
        level := level
        heldLimit := BitVec.ofNat 3 (max 1 (min 4 limit.toNat))
        discardRun := 0
        lapsed := false } := by
  rw [Requester.write, oneToFour_eq_clamp]
  rfl

/-- Settles O18: each row is one taken write, and the two W1C clears end by driving the lines. -/
theorem clearCommandsClearTheirFlags : Obligations.ClearCommandsClearTheirFlags := by
  refine ⟨fun s hreset => ⟨fun r level limit => ?lapse, exec_clearWrapFlag_high hreset⟩,
    fun s hreset => ⟨fun marks => ?remote, fun marks => ?cause⟩⟩
  case lapse =>
    rw [exec_clearLapse_high hreset, ← Requester.write_clearLapse]
    rfl
  case remote =>
    exact ⟨_, exec_clearRemoteSource_high hreset marks,
      fun n => ⟨s.evu.clearRemote_remotePending marks n, s.evu.clearRemote_remoteRepeat marks n⟩,
      Evu.drive_intA _, Evu.drive_intB _, rfl⟩
  case cause =>
    exact ⟨_, exec_clearLocalCause_high hreset marks, s.evu.clearLocal_localPending marks,
      Evu.drive_intA _, Evu.drive_intB _, rfl⟩

/-! ### The fault record (R167) -/

/-- A write that is taken acts as the register at its offset says and is answered DONE (R172, R174). -/
theorem exec_registerWrite_taken {s : State} {o : BitVec 12} {r : Register} (hreset : s.resetN = true)
    (haligned : o.toNat % 4 = 0) (hregister : registerAt o.toNat = some r) (q : Fin 8) (v : Word) :
    exec (.registerWrite q o 4 v) s = .next ((s.writeRegister r v).answered (.done [])) := by
  have taken : accessTaken o 4 = true := by simp [accessTaken, haligned]
  rw [exec_registerWrite, execRegisterWrite, State.hostTransfer_high hreset, State.registerWrite, if_pos taken,
    hregister]

theorem registerAt_faultClear : registerAt 0x2A4 = some .faultClear := by decide

theorem State.writeRegister_faultClear (v : Word) (s : State) :
    s.writeRegister .faultClear v = if v.getLsbD 0 then { s with evu := s.evu.emptyFault } else s := rfl

/-- Settles O19: bit 0 of the written value decides between the emptied record and the state as it stood. -/
theorem faultRecordCleared : Obligations.FaultRecordCleared := by
  intro s q v hreset
  have written := exec_registerWrite_taken hreset (o := 0x2A4) (by decide) registerAt_faultClear q v
  rw [written, State.writeRegister_faultClear, exec_faultRecordClear_high hreset]
  refine ⟨rfl, fun one => ?_, fun zero => ?_⟩
  · rw [if_pos one]
  · rw [if_neg (Bool.eq_false_iff.mp zero)]
    rfl

end Sys2Proof.Machine
end

section
/-! SUPPORT. What the identification register and quiet status present, one law per field, and the obligation about them
(O21). -/

namespace Sys2Proof.Machine

/-! ### A field at bit 0 of a register value -/

theorem place_zero {w : Nat} (x : BitVec w) : place 0 x = x.setWidth 32 := BitVec.shiftLeft_zero _

/-- A register shows a number that fits the field at its bit 0 as that number. -/
theorem place_zero_ofNat {w n : Nat} (hn : n < 2 ^ w) : place 0 (BitVec.ofNat w n) = BitVec.ofNat 32 n := by
  rw [place_zero]
  apply BitVec.eq_of_toNat_eq
  rw [BitVec.toNat_setWidth, BitVec.toNat_ofNat, BitVec.toNat_ofNat, Nat.mod_eq_of_lt hn]

/-! ### Identification (R163) -/

/-- A local cause is presented by its rank when no cause of a higher rank is pending and enabled. -/
theorem Evu.identification_of_local {e : Evu} {k : Fin 8}
    (hk : (e.localPending.getLsbD k && e.localEnable.getLsbD k) = true)
    (hhigher : ∀ j : Fin 8, j < k → (e.localPending.getLsbD j && e.localEnable.getLsbD j) = false) :
    e.identification = BitVec.ofNat 5 (k + 1) := by
  simp only [← BitVec.getLsbD_and] at hk hhigher
  rw [Evu.identification, find?_finRange_eq_some.mpr ⟨hk, hhigher⟩]

/-- With no local cause, the lowest remote source that is pending and enabled is presented. -/
theorem Evu.identification_of_remote {e : Evu} {n : Fin 16}
    (hlocal : ∀ j : Fin 8, (e.localPending.getLsbD j && e.localEnable.getLsbD j) = false)
    (hn : (e.remotePending.getLsbD n && e.remoteEnable.getLsbD n) = true)
    (hhigher : ∀ m : Fin 16, m < n → (e.remotePending.getLsbD m && e.remoteEnable.getLsbD m) = false) :
    e.identification = BitVec.ofNat 5 (16 + n) := by
  simp only [← BitVec.getLsbD_and] at hlocal hn hhigher
  rw [Evu.identification, find?_finRange_eq_none.mpr hlocal, find?_finRange_eq_some.mpr ⟨hn, hhigher⟩]

theorem Evu.identification_of_none {e : Evu}
    (hlocal : ∀ j : Fin 8, (e.localPending.getLsbD j && e.localEnable.getLsbD j) = false)
    (hremote : ∀ m : Fin 16, (e.remotePending.getLsbD m && e.remoteEnable.getLsbD m) = false) :
    e.identification = 0 := by
  simp only [← BitVec.getLsbD_and] at hlocal hremote
  rw [Evu.identification, find?_finRange_eq_none.mpr hlocal, find?_finRange_eq_none.mpr hremote]

theorem State.readRegister_identification (s : State) :
    s.readRegister .identification = place 0 s.evu.identification := rfl

/-! ### Quiet status (R181) -/

theorem Hrt.noneInFlight_iff {t : Hrt} :
    t.noneInFlight = true ↔
      ∀ e : Fin 16, ∀ h ∈ t.entries[e], (∀ n, h.phase ≠ .queued n) ∧ ∀ tag n, h.phase ≠ .issued tag n := by
  have notInFlight (h : Held) :
      (!h.inFlight) = true ↔ (∀ n, h.phase ≠ .queued n) ∧ ∀ tag n, h.phase ≠ .issued tag n := by
    simp only [Bool.not_eq_true', ← Bool.not_eq_true, Held.inFlight_iff, not_or, not_exists, ne_eq]
  rw [Hrt.noneInFlight, List.all_eq_true]
  refine ⟨fun all e h held => ?_, fun all e _ => ?_⟩
  · have here := all e (List.mem_finRange e)
    rw [Option.mem_def.mp held] at here
    exact (notInFlight h).mp here
  · cases held : t.entries[e] with
    | none => rfl
    | some h => exact (notInFlight h).mpr (all e h held)

/-- Four indications side by side, the first at the highest bit. -/
theorem getLsbD_fourFlags (d c b a : Bool) :
    (flagBit d ++ flagBit c ++ flagBit b ++ flagBit a).getLsbD 0 = a ∧
      (flagBit d ++ flagBit c ++ flagBit b ++ flagBit a).getLsbD 1 = b ∧
      (flagBit d ++ flagBit c ++ flagBit b ++ flagBit a).getLsbD 2 = c ∧
      (flagBit d ++ flagBit c ++ flagBit b ++ flagBit a).getLsbD 3 = d := by
  simp only [flagBit, BitVec.getLsbD_append]
  simp

theorem State.readRegister_quietStatus (s : State) : s.readRegister .quietStatus = s.quietStatus.setWidth 32 :=
  place_zero _

/-- The four indications of quiet status, as the register shows them. -/
theorem State.readRegister_quietStatus_bits (s : State) :
    (s.readRegister .quietStatus).getLsbD 0 =
        (s.pwq.queue.isEmpty && s.ltx.buffer.isEmpty && s.hrt.noneInFlight) ∧
      (s.readRegister .quietStatus).getLsbD 1 = s.pwq.queue.isEmpty ∧
      (s.readRegister .quietStatus).getLsbD 2 = s.ltx.buffer.isEmpty ∧
      (s.readRegister .quietStatus).getLsbD 3 = s.hrt.noneInFlight := by
  have shown {i : Nat} (hi : i < 32) : (s.readRegister .quietStatus).getLsbD i = s.quietStatus.getLsbD i := by
    rw [State.readRegister_quietStatus, BitVec.getLsbD_setWidth, decide_eq_true hi, Bool.true_and]
  rw [shown (by decide), shown (by decide), shown (by decide), shown (by decide)]
  exact getLsbD_fourFlags _ _ _ _

theorem State.readRegister_quietStatus_lt (s : State) : (s.readRegister .quietStatus).toNat < 16 := by
  rw [State.readRegister_quietStatus, BitVec.toNat_setWidth_of_le (by decide)]
  exact s.quietStatus.isLt

/-- Settles O21: identification is a search of the local causes and then of the remote sources, and quiet status is four
flags side by side. -/
theorem identificationAndQuietStatus : Obligations.IdentificationAndQuietStatus := by
  intro s
  obtain ⟨allQuiet, queueEmpty, bufferEmpty, noneOpen⟩ := s.readRegister_quietStatus_bits
  simp only [State.readRegister_identification, allQuiet, queueEmpty, bufferEmpty, noneOpen]
  refine ⟨fun k hk hhigher => ?localCause, fun hlocal => ⟨fun n hn hhigher => ?remoteSource, fun hremote => ?none⟩,
    List.isEmpty_iff, List.isEmpty_iff, Hrt.noneInFlight_iff, ?quiet, s.readRegister_quietStatus_lt⟩
  case localCause =>
    rw [Evu.identification_of_local hk hhigher, place_zero_ofNat (by omega)]
  case remoteSource =>
    rw [Evu.identification_of_remote hlocal hn hhigher, place_zero_ofNat (by omega)]
  case none =>
    rw [Evu.identification_of_none hlocal hremote, place_zero]
    rfl
  case quiet =>
    rw [Bool.and_eq_true, Bool.and_eq_true, and_assoc]

end Sys2Proof.Machine
end

section
/-! SUPPORT. What the event unit does with a SIGNAL, a WRITE_FAULT and an event of an unknown kind, and the obligation
about expected EV frames (O33). -/

namespace Sys2Proof.Machine

/-! ### A SIGNAL (R156) -/

theorem Evu.signal_of_pending {e : Evu} {n : Fin 16} (h : e.remotePending.getLsbD n = true) :
    e.signal n = { e with remoteRepeat := e.remoteRepeat.set n (min 15 (e.remoteRepeat[n] + 1)) } := by
  rw [Evu.signal, if_pos h]

theorem Evu.signal_of_not_pending {e : Evu} {n : Fin 16} (h : e.remotePending.getLsbD n = false) :
    e.signal n =
      { e with remotePending := e.remotePending ||| 1#16 <<< n.val, remoteRepeat := e.remoteRepeat.set n 0 }.drive := by
  rw [Evu.signal, if_neg (Bool.eq_false_iff.mp h)]

/-- The flag of one source, set among the others. -/
theorem getLsbD_or_one_shiftLeft (x : BitVec 16) (n m : Fin 16) :
    (x ||| 1#16 <<< n.val).getLsbD m = (x.getLsbD m || decide (m = n)) := by
  have bit : (1#16 <<< n.val).getLsbD m.val = decide (m = n) := by
    rw [← BitVec.twoPow_eq, BitVec.getLsbD_twoPow, decide_eq_true n.isLt, Bool.true_and]
    exact decide_eq_decide.mpr (eq_comm.trans Fin.ext_iff.symm)
  rw [BitVec.getLsbD_or, bit]

/-! ### The way of an expected EV to the event unit -/

theorem exec_evReceived_expected {s : State} (hreset : s.resetN = true) (hactive : s.ltc.link = .active)
    (kind : BitVec 4) (body : Vector Byte 7) :
    exec (.evReceived s.lrx.expected kind body) s = .next (s.goodFrame.delivered.takeEvent kind body) := by
  have expected : s.lrx.expected = s.goodFrame.lrx.expected := rfl
  rw [exec_evReceived, execEvReceived, State.powered_accepted_active hreset hactive,
    State.sequenced_expected expected]

theorem State.takeEvent_signal (body : Vector Byte 7) (s : State) :
    s.takeEvent 0 body = { s with evu := s.evu.signal (eventSource body) } := rfl

/-- A reason has eight bits, so the detail field of the record holds it whole (R158). -/
theorem State.takeEvent_writeFault (body : Vector Byte 7) (s : State) :
    s.takeEvent 1 body = s.report
      { kind := .writeFault
        remote := some (eventAddress body, body[0].extractLsb' 0 2)
        detail := some (body[6].setWidth 16) } := by
  rw [← BitVec.ofNat_toNat]
  rfl

/-- A kind that no event has is reported whole (R159). -/
theorem State.takeEvent_unknown {kind : BitVec 4} (hkind : 2 ≤ kind.toNat) (body : Vector Byte 7) (s : State) :
    s.takeEvent kind body = s.report { kind := .unknownEvent, detail := some (kind.setWidth 16) } := by
  obtain ⟨k, hk⟩ : ∃ k, kind.toNat = k + 2 := ⟨kind.toNat - 2, by omega⟩
  rw [← BitVec.ofNat_toNat, State.takeEvent, hk]
  rfl

/-- Settles O33: the delivery leaves the event unit alone, so the frame's kind and the source's flag decide. -/
theorem eventFramesReachTheEventUnit : Obligations.EventFramesReachTheEventUnit := by
  intro s body hreset hactive
  refine ⟨fun n hn => ?signal, ?writeFault, fun kind hkind => ?unknown⟩
  case signal =>
    have source : eventSource body = n := Fin.ext hn.symm
    rw [exec_evReceived_expected hreset hactive, State.takeEvent_signal, source]
    refine ⟨fun hnew => ⟨_, rfl, ?_⟩, fun hpending => ?_⟩
    · rw [State.delivered_evu, State.goodFrame_evu, Evu.signal_of_not_pending hnew]
      exact ⟨rfl, getLsbD_or_one_shiftLeft s.evu.remotePending n⟩
    · rw [State.delivered_evu, State.goodFrame_evu, Evu.signal_of_pending hpending]
  case writeFault =>
    rw [exec_evReceived_expected hreset hactive, State.takeEvent_writeFault]
    rfl
  case unknown =>
    rw [exec_evReceived_expected hreset hactive, State.takeEvent_unknown hkind]
    rfl

end Sys2Proof.Machine
end

section
/-! SUPPORT. When a register access is taken, what a taken and a refused one do in each direction, and the obligations about
register accesses (O9) and about the identity register (O8). -/

namespace Sys2Proof.Machine

/-! ### Which accesses are taken (R172) -/

theorem accessTaken_eq_false_iff {o : BitVec 12} {n : Nat} : accessTaken o n = false ↔ n ≠ 4 ∨ o.toNat % 4 ≠ 0 := by
  simp only [accessTaken, Bool.and_eq_false_iff, beq_eq_false_iff_ne]

theorem accessTaken_of_aligned {o : BitVec 12} (haligned : o.toNat % 4 = 0) : accessTaken o 4 = true :=
  Bool.and_eq_true_iff.mpr ⟨rfl, beq_iff_eq.mpr haligned⟩

/-! ### Reads (R172, R173) -/

/-- An unassigned offset reads 0 (R175). -/
theorem State.registerRead_taken {s : State} {o : BitVec 12} (hreset : s.resetN = true) (haligned : o.toNat % 4 = 0) :
    s.registerRead o 4 = some (((registerAt o.toNat).map s.readRegister).getD 0) :=
  if_pos (Bool.and_eq_true_iff.mpr ⟨hreset, accessTaken_of_aligned haligned⟩)

theorem State.registerRead_assigned {s : State} {o : BitVec 12} {r : Register} (hreset : s.resetN = true)
    (haligned : o.toNat % 4 = 0) (hregister : registerAt o.toNat = some r) :
    s.registerRead o 4 = some (s.readRegister r) := by
  rw [State.registerRead_taken hreset haligned, hregister, Option.map_some, Option.getD_some]

theorem State.registerRead_refused {s : State} {o : BitVec 12} {n : Nat}
    (h : s.resetN = false ∨ accessTaken o n = false) : s.registerRead o n = none :=
  if_neg (Bool.eq_false_iff.mp (Bool.and_eq_false_iff.mpr h))

/-! ### Writes (R172, R174) -/

/-- A taken write is answered DONE, whether a register is assigned at its offset or not. -/
theorem exec_registerWrite_answers_done {s : State} {o : BitVec 12} (hreset : s.resetN = true)
    (haligned : o.toNat % 4 = 0) (q : Fin 8) (v : Word) :
    ∃ t, exec (.registerWrite q o 4 v) s = .next t ∧ t.answer = some (.done []) := by
  refine ⟨s.registerWrite o 4 v, ?_, ?_⟩
  · rw [exec_registerWrite, execRegisterWrite, State.hostTransfer_high hreset]
  · rw [State.registerWrite, if_pos (accessTaken_of_aligned haligned), State.answered_answer]

/-- RESET_N low and an access of the wrong form end in the same answer. -/
theorem exec_registerWrite_refused {s : State} {o : BitVec 12} {n : Nat}
    (h : s.resetN = false ∨ accessTaken o n = false) (q : Fin 8) (v : Word) :
    exec (.registerWrite q o n v) s = .next (s.answered .fault) := by
  rw [exec_registerWrite, execRegisterWrite]
  cases hreset : s.resetN with
  | false => exact State.hostTransfer_low hreset _
  | true =>
    have wrongForm : accessTaken o n = false := h.resolve_left (by simp [hreset])
    rw [State.hostTransfer_high hreset, State.registerWrite, if_neg (Bool.eq_false_iff.mp wrongForm)]

theorem exec_registerWrite_requester (q q' : Fin 8) (o : BitVec 12) (n : Nat) (v : Word) (s : State) :
    exec (.registerWrite q o n v) s = exec (.registerWrite q' o n v) s := by
  rw [exec_registerWrite, exec_registerWrite, execRegisterWrite, execRegisterWrite]

/-- Settles O9: RESET_N and the form of the access decide between the taken and the refused access in both directions. -/
theorem registerAccessTakenOrAnsweredFault : Obligations.RegisterAccessTakenOrAnsweredFault := by
  intro s q q' o n v
  refine ⟨fun hrefused => ?refused, fun ⟨hreset, hsize, haligned⟩ => ?taken,
    exec_registerWrite_requester q q' o n v s⟩
  case refused =>
    have notTaken : s.resetN = false ∨ accessTaken o n = false := hrefused.imp_right accessTaken_eq_false_iff.mpr
    exact ⟨exec_registerWrite_refused notTaken q v, State.registerRead_refused notTaken⟩
  case taken =>
    subst hsize
    refine ⟨exec_registerWrite_answers_done hreset haligned q v, ?_⟩
    rw [State.registerRead_taken hreset haligned, Option.isSome_some]

/-! ### The identity register (R176) -/

theorem registerAt_identity : registerAt 0x000 = some .identity := by decide

theorem State.registerRead_identity {s : State} (hreset : s.resetN = true) :
    s.registerRead 0x000 4 = some 0x24160001 :=
  State.registerRead_assigned hreset (o := 0x000) (by decide) registerAt_identity

theorem State.writeRegister_identity (v : Word) (s : State) : s.writeRegister .identity v = s := rfl

/-- Settles O8: offset 000H is the identity register's, which shows a constant and has no written field. -/
theorem identityRegisterIsConstant : Obligations.IdentityRegisterIsConstant := by
  intro s hreset
  refine ⟨State.registerRead_identity hreset, fun q v => ?_⟩
  rw [exec_registerWrite_taken hreset (o := 0x000) (by decide) registerAt_identity q v, State.writeRegister_identity]
  rfl

end Sys2Proof.Machine
end

section
/-! SUPPORT. Every operation of the event unit keeps its record consistent (R156, R164 to R166). -/

namespace Sys2Proof.Machine

/-! ### The event unit -/

/-- What consistency asks of the fault record and of the repeat counts, the two lines left out. -/
def Evu.counted (e : Evu) : Prop :=
  (e.fault = none → e.laterCount = 0) ∧ e.laterCount ≤ 255 ∧
    ∀ n : Fin 16, e.remoteRepeat[n] ≤ 15 ∧ (e.remotePending.getLsbD n = false → e.remoteRepeat[n] = 0)

theorem Evu.counted_of_consistent {e : Evu} (h : e.consistent) : e.counted := h.2.2

/-- The lines of a driven record follow its causes, so its counts alone decide. -/
theorem Evu.drive_consistent {e : Evu} (h : e.counted) : e.drive.consistent := ⟨rfl, rfl, h⟩

/-- An update that leaves the causes, their enables, their routes and the lines alone keeps the lines right. -/
theorem Evu.consistent_of_counted {e : Evu} (h : e.consistent) {fault : Option FaultRecord} {later : Nat}
    {counts : Vector Nat 16} (hc : { e with fault := fault, laterCount := later, remoteRepeat := counts }.counted) :
    { e with fault := fault, laterCount := later, remoteRepeat := counts }.consistent :=
  ⟨h.1, h.2.1, hc⟩

/-- Local causes, enables and routes may take any value when the lines are driven after it. -/
theorem Evu.redriven_consistent {e : Evu} (h : e.consistent) (pending enable route : BitVec 8)
    (remoteEnable remoteRoute : BitVec 16) :
    { e with
      localPending := pending, localEnable := enable, localRoute := route
      remoteEnable := remoteEnable, remoteRoute := remoteRoute }.drive.consistent :=
  have ⟨_, _, counted⟩ := h
  ⟨rfl, rfl, counted⟩

theorem Evu.raise_consistent {e : Evu} (h : e.consistent) (c : LocalCause) : (e.raise c).consistent :=
  Evu.redriven_consistent h _ _ _ _ _

theorem Evu.report_consistent {e : Evu} (h : e.consistent) (r : FaultRecord) : (e.report r).consistent := by
  obtain ⟨hempty, hlater, hrepeat⟩ := Evu.counted_of_consistent h
  cases hf : e.fault with
  | none =>
    rw [Evu.report_empty hf]
    exact Evu.drive_consistent ⟨fun _ => hempty hf, hlater, hrepeat⟩
  | some q =>
    have filled : ¬ e.fault = none := by rw [hf]; exact Option.some_ne_none q
    rw [Evu.report_filled hf]
    exact Evu.consistent_of_counted h ⟨fun he => absurd he filled, Nat.min_le_left _ _, hrepeat⟩

theorem Evu.writesDropped_consistent {e : Evu} (h : e.consistent) (n : Nat) : (e.writesDropped n).consistent := by
  by_cases hn : n = 0
  · rw [hn, Evu.writesDropped_zero]
    exact h
  · rw [Evu.writesDropped_pos hn]
    exact Evu.report_consistent (Evu.raise_consistent h _) _

theorem Evu.emptyFault_consistent {e : Evu} (h : e.consistent) : e.emptyFault.consistent :=
  Evu.consistent_of_counted h ⟨fun _ => rfl, Nat.zero_le _, (Evu.counted_of_consistent h).2.2⟩

/-- The repeat counts after one of them is set. -/
theorem getElem_set_fin {α : Type} {n : Nat} (v : Vector α n) (i j : Fin n) (x : α) :
    (v.set i x)[j] = if j = i then x else v[j] := by
  by_cases h : j = i
  · subst h
    simp
  · have : i.val ≠ j.val := fun he => h (Fin.ext he.symm)
    simp [h, Vector.getElem_set_ne, this]

theorem Evu.signal_consistent {e : Evu} (h : e.consistent) (n : Fin 16) : (e.signal n).consistent := by
  obtain ⟨hempty, hlater, hrepeat⟩ := Evu.counted_of_consistent h
  cases hp : e.remotePending.getLsbD n with
  | true =>
    rw [Evu.signal_of_pending hp]
    refine Evu.consistent_of_counted h ⟨hempty, hlater, fun m => ?_⟩
    rw [getElem_set_fin]
    by_cases hm : m = n
    · rw [if_pos hm]
      exact ⟨Nat.min_le_left _ _, fun hz => by rw [hm, hp] at hz; cases hz⟩
    · rw [if_neg hm]
      exact hrepeat m
  | false =>
    rw [Evu.signal_of_not_pending hp]
    refine Evu.drive_consistent ⟨hempty, hlater, fun m => ?_⟩
    rw [getElem_set_fin, getLsbD_or_one_shiftLeft]
    by_cases hm : m = n
    · rw [if_pos hm]
      exact ⟨Nat.zero_le _, fun _ => rfl⟩
    · rw [if_neg hm]
      exact ⟨(hrepeat m).1, fun hz => (hrepeat m).2 (Bool.or_eq_false_iff.mp hz).1⟩

theorem Evu.clearRemote_consistent {e : Evu} (h : e.consistent) (marks : BitVec 16) :
    (e.clearRemote marks).consistent := by
  obtain ⟨hempty, hlater, hrepeat⟩ := Evu.counted_of_consistent h
  refine ⟨rfl, rfl, hempty, hlater, fun n => ?_⟩
  rw [Evu.clearRemote_remoteRepeat, Evu.clearRemote_remotePending]
  by_cases hm : marks.getLsbD n = true
  · rw [if_pos hm]
    exact ⟨Nat.zero_le _, fun _ => rfl⟩
  · rw [if_neg hm]
    refine ⟨(hrepeat n).1, fun hz => (hrepeat n).2 ?_⟩
    rwa [Bool.eq_false_iff.mpr hm, Bool.not_false, Bool.and_true] at hz

theorem Evu.functionReset_consistent (e : Evu) : e.functionReset.consistent := by
  refine Evu.drive_consistent ⟨fun _ => rfl, Nat.zero_le _, fun n => ?_⟩
  have zero : (Vector.replicate 16 0)[n] = 0 := by simp
  rw [zero]
  exact ⟨Nat.zero_le _, fun _ => rfl⟩

end Sys2Proof.Machine
end

section
/-! SUPPORT. What a step can do, said once: the changes that commands make (`Move`), each with the guards it is made under,
that every command answers a next state reached by them (`exec_ran`), and what a step on an empty queue does (`Passes`).
The invariants are proved from these. The obligation that no command stops or touches the queue (O3). -/

namespace Sys2Proof.Machine

/-! ### The changes that commands make -/

/-- One change that the command `c` makes while RESET_N is high. A command's effect is a sequence of such changes. -/
inductive Move (c : Instr) (s : State) : State → Prop where
  -- the host bus, the windows, general control and the event unit
  | answered (a : Answer) : Move c s (s.answered a)
  | events (e : Evu) (kept : s.evu.consistent → e.consistent) : Move c s { s with evu := e }
  | windows (win : Vector Window 8) : Move c s { s with win := win }
  | general (policy : Policy) (hold : Bool) (tbdiv : BitVec 8) (kept : s.reg.tbdiv ≠ 0 → tbdiv ≠ 0) :
      Move c s { s with reg := { s.reg with policy := policy, intakeHold := hold, tbdiv := tbdiv } }
  -- the stored controls of the other blocks
  | heldControls (interval : BitVec 8) (threshold : BitVec 4) (kept : s.hrt.discardInterval ≠ 0 → interval ≠ 0) :
      Move c s { s with hrt := { s.hrt with discardInterval := interval, lapseThreshold := threshold } }
  | requesterWritten (r : Fin 8) (level : Level) (limit : BitVec 3) (clear : Bool) :
      Move c s (s.writeRequester r level limit clear)
  | timeoutWritten (v : BitVec 8) (h : v ≠ 0) : Move c s { s with isu := { s.isu with completionTimeout := v } }
  | trainingControls (staged : Grade) (window count : BitVec 8) (limit : BitVec 4) (bypass : Bool)
      (hwindow : s.ltc.seekWindow ≠ 0 → window ≠ 0) (hcount : s.ltc.alignCount ≠ 0 → count ≠ 0) :
      Move c s { s with
        ltc := { s.ltc with
          staged := staged, seekWindow := window, attemptLimit := limit, lockBypass := bypass, alignCount := count } }
  | retryControls (interval : BitVec 8) (short long : BitVec 3) (hinterval : interval ≠ 0)
      (hshort : 1 ≤ short.toNat ∧ short.toNat ≤ 4) :
      Move c s { s with
        ltx := { s.ltx with replayInterval := interval, shortLimit := short, longLimit := long } }
  | ackControls (count : BitVec 5) (delay : BitVec 6) (threshold : BitVec 4)
      (hcount : 1 ≤ count.toNat ∧ count.toNat ≤ 16) (hdelay : delay ≠ 0) (hthreshold : threshold ≠ 0) :
      Move c s { s with
        lrx := { s.lrx with ackCount := count, ackDelay := delay, lineLossThreshold := threshold } }
  | wrapFlagCleared : Move c s s.clearWrapFlag
  | functionReset : Move c s s.functionReset
  -- the link controller
  | commandStatus (code : BitVec 4) (accepted : Bool) : Move c s (s.commandStatus code accepted)
  | freshStart (h : s.ltc.link = .off ∨ s.ltc.link = .failed) : Move c s s.freshStart
  | retrained (reason : RetrainReason) (h : s.ltc.link = .active) :
      Move c s { s with ltc := s.ltc.retrain reason, ltx := s.ltx.leaveActive, lrx := s.lrx.leaveActive }
  | disabled (h : s.ltc.link ≠ .off) : Move c s s.disable
  | failed (cause : LinkFailure) (h : s.ltc.link = .active ∨ s.ltc.link = .seek) : Move c s (s.enterFailed cause)
  | sessionEnded (h : s.ltc.link = .exchange) : Move c s s.teardown.freshStart
  | attemptCounted (h : s.ltc.seekTimer ≠ none) : Move c s { s with ltc := s.ltc.countAttempt }
  | fellBack (h : s.ltc.link = .seek) : Move c s { s with ltc := s.ltc.fallback }
  | skCounted (run : Nat) (hrun : run ≤ 2) (h : s.ltc.link = .seek) :
      Move c s { s with ltc := { s.ltc with skRun := run } }
  | aligned (run : Nat) (hrun : run ≤ s.ltc.skRun + 1) (h : s.ltc.link = .seek) :
      Move c s { s with ltc := { s.ltc with skRun := run } }.enterAlign
  | alTaken (index : BitVec 8) (h : s.ltc.link = .align) :
      Move c s { s with ltc := { s.ltc with alRun := some index } }
  | exchanged (h : s.ltc.link = .align) : Move c s s.enterExchange
  | sessionStarted (n : BitVec 4) (q w : Nat) (hn : n ≠ 0) (hq : 1 ≤ q ∧ q ≤ 32) (hw : 1 ≤ w ∧ w ≤ 64)
      (h : s.ltc.link = .exchange) (hnone : s.ltc.partnerSession = 0) : Move c s (s.startSession n q w)
  | sessionResumed (h : s.ltc.link = .exchange) (hstands : s.ltc.partnerSession ≠ 0) : Move c s s.resumeSession
  -- the link receiver
  | goodFrame : Move c s s.goodFrame
  | lossCounted (h : s.lrx.lineLossRun + 1 < s.lrx.lineLossThreshold.toNat) :
      Move c s { s with lrx := { s.lrx with lineLossRun := s.lrx.lineLossRun + 1 } }
  | nakOpened (h : s.ltc.link = .active) :
      Move c s { s with lrx := { s.lrx with nakOpen := true }, ltx := { s.ltx with nkDue := some s.lrx.lastGood } }
  | delivered (h : s.ltc.link = .active) : Move c s s.delivered
  | ackDue (h : s.ltc.link = .active) : Move c s s.ackDue
  | ackDelayExpired (h : s.lrx.ackDelayTimer ≠ none) :
      Move c s { s with lrx := { s.lrx with ackDelayTimer := none } }.ackDue
  -- the link transmitter
  | progressed (n : BitVec 7) (h : s.ltc.link = .active) (hn : ∃ f ∈ s.ltx.buffer, f.number = n) :
      Move c s { s with ltx := s.ltx.progress n }
  | passStarted (h : s.ltc.link = .active ∨ s.ltx.replayTimer ≠ none) (hs : s.ltx.shortRetry < s.ltx.shortLimit.toNat) :
      Move c s { s with ltx := { s.ltx with shortRetry := s.ltx.shortRetry + 1 }.startPass }
  | longRetried (h : s.ltx.longRetry < s.ltx.longLimit.toNat) :
      Move c s { s with ltx := { s.ltx with longRetry := s.ltx.longRetry + 1 } }
  | replayTimerStopped : Move c s { s with ltx := { s.ltx with replayTimer := none } }
  | nkSent : Move c s { s with ltx := { s.ltx with nkDue := none } }
  | akSent : Move c s { s with
      ltx := { s.ltx with akDue := false }, lrx := { s.lrx with coalescing := 0, ackDelayTimer := none } }
  | passEnded : Move c s { s with ltx := { s.ltx with pass := none } }
  | passMoved (f : SentFrame) (h : s.ltc.link = .active) (hf : f ∈ s.ltx.buffer) :
      Move c s { s with ltx := { s.ltx with pass := some f.number } }
  | replayTimerStarted (h : s.ltc.link = .active) (hb : s.ltx.buffer ≠ []) :
      Move c s { s with ltx := { s.ltx with replayTimer := some s.ltx.replayTicks } }
  | alignIndexed (index : BitVec 8) : Move c s { s with ltx := { s.ltx with alignIndex := index } }
  | pairIdle : Move c s { s with tx := .idleFill }
  | sent (bytes : List Byte) (hoff : s.ltc.link ≠ .off) (hfailed : s.ltc.link ≠ .failed) : Move c s (s.send bytes)
  -- held requests, tags, posted writes and credits
  | created (x : Transfer) (hit : Hit) (e : Fin 16) (hsize : sizeRule x.offset x.size = true)
      (hkey : ∀ f : Fin 16, ∀ h ∈ s.hrt.entries[f], h.key ≠ x.key) (hup : s.linkDown = false)
      (hlimit : s.hrt.requesters[x.requester].atLimit = false) (hfree : s.hrt.entries[e] = none)
      (hdata : c.wf = true → x.direction = .write → x.data.length = x.size) :
      Move c s { s with hrt := s.hrt.create e x hit s.pwq.queue.length }
  | collected (e : Fin 16) (h : Held) (he : s.hrt.entries[e] = some h) (hdone : h.inFlight = false) :
      Move c s { s with hrt := s.hrt.collect e h.requester }
  | discarded (e : Fin 16) (h : Held) (he : s.hrt.entries[e] = some h) (hdone : h.inFlight = false) :
      Move c s { s with hrt := s.hrt.discard e h.requester }
  | quarantined (e : Fin 16) (h : Held) (tag : Fin 32) (n : Nat) (he : s.hrt.entries[e] = some h)
      (hp : h.phase = .issued tag n) :
      Move c s { s with
        isu := s.isu.setTag tag .quarantined
        hrt := s.hrt.setHeld e (Held.fail .noCompletion s.hrt.discardTicks) }
  | completed (e : Fin 16) (h : Held) (tag : Fin 32) (status : CpStatus) (data : List Byte)
      (he : s.hrt.entries[e] = some h) (ht : h.holdsTag tag = true) :
      Move c s { s with
        isu := s.isu.setTag tag .free
        hrt := s.hrt.setHeld e fun h => h.completed status data s.hrt.discardTicks }
  | tagFreed (tag : Fin 32)
      (hfree : s.isu.tags[tag] = .quarantined ∨ ∀ e : Fin 16, ∀ h ∈ s.hrt.entries[e], h.holdsTag tag = false) :
      Move c s { s with isu := s.isu.setTag tag .free }
  | credited (total : BitVec 8) (h : s.isu.advance total ≤ s.isu.creditsInUse) :
      Move c s { s with isu := { s.isu with returned := total } }
  | posted (w : PostedWrite) (hup : s.linkDown = false) (hroom : s.pwq.queue.length < 16)
      (hdata : c.wf = true → w.data.length = w.size) :
      Move c s { s with pwq := { s.pwq with queue := s.pwq.queue ++ [w] } }
  | contested (path : Path) : Move c s { s with pwq := { s.pwq with lastContested := path } }
  | departed (w : PostedWrite) (rest : List PostedWrite) (hq : s.pwq.queue = w :: rest)
      (hcredit : 1 ≤ s.isu.creditsAvailable) (h : s.ltc.link = .active) (hroom : s.ltx.buffer.length < 32) :
      Move c s
        ({ s with
            pwq := { s.pwq with queue := rest }
            isu := s.isu.departure
            hrt := s.hrt.departure }.sendNew (pwFrame s.ltx.next w))
  | issued (g : Grant) (tag : Fin 32) (e : Fin 16) (h : Held) (hgrant : grant s.hrt s.isu = some g)
      (htag : s.isu.lowestFreeTag = some tag) (hc : s.hrt.candidate g.requester = some (e, h))
      (hlink : s.ltc.link = .active) (hroom : s.ltx.buffer.length < 32) : Move c s (s.issueTo g tag e h)

/-- Some changes that the command `c` makes, one after the other. -/
inductive Moves (c : Instr) (s : State) : State → Prop
  | refl : Moves c s s
  | tail {t u : State} (first : Moves c s t) (last : Move c t u) : Moves c s u

/-- One change as a sequence of changes. -/
theorem Move.alone {c : Instr} {s t : State} (m : Move c s t) : Moves c s t := .tail .refl m

theorem Moves.trans {c : Instr} {s t u : State} (m : Moves c s t) (n : Moves c t u) : Moves c s u := by
  induction n with
  | refl => exact m
  | tail _ last ih => exact ih.tail last

theorem Moves.head {c : Instr} {s t u : State} (m : Move c s t) (n : Moves c t u) : Moves c s u := m.alone.trans n

/-- No change touches the waiting commands, the receive pair, the model's counter or RESET_N. -/
theorem Move.frame {c : Instr} {s t : State} (m : Move c s t) :
    t.pending = s.pending ∧ t.rxLine = s.rxLine ∧ t.freeDraws = s.freeDraws ∧ t.resetN = s.resetN := by
  cases m with
  | failed | disabled | sessionEnded => simp
  | departed => simp
  | _ => exact ⟨rfl, rfl, rfl, rfl⟩

theorem Moves.frame {c : Instr} {s t : State} (m : Moves c s t) :
    t.pending = s.pending ∧ t.rxLine = s.rxLine ∧ t.freeDraws = s.freeDraws ∧ t.resetN = s.resetN := by
  induction m with
  | refl => exact ⟨rfl, rfl, rfl, rfl⟩
  | tail _ last ih =>
    obtain ⟨hp, hr, hf, hn⟩ := last.frame
    obtain ⟨ihp, ihr, ihf, ihn⟩ := ih
    exact ⟨hp.trans ihp, hr.trans ihr, hf.trans ihf, hn.trans ihn⟩

end Sys2Proof.Machine
end

section
/-! SUPPORT. The changes that each shared operation and each command makes. -/

namespace Sys2Proof.Machine

variable {c : Instr} {s : State}

/-- A change that is made on a condition. -/
theorem Moves.ite {p : Prop} [Decidable p] {t : State} (h : p → Moves c s t) : Moves c s (if p then t else s) := by
  split
  · next hp => exact h hp
  · exact .refl

/-! ### The event unit -/

theorem Moves.raise (cause : LocalCause) : Moves c s (s.raise cause) :=
  (Move.events _ fun h => Evu.raise_consistent h cause).alone

theorem Moves.report (r : FaultRecord) : Moves c s (s.report r) :=
  (Move.events _ fun h => Evu.report_consistent h r).alone

theorem Moves.refuse (r : FaultRecord) : Moves c s (s.refuse r) := (Moves.report r).tail (.answered _)

/-! ### Intake -/

/-- What the well-formedness of an aperture transfer says of its data (R170). -/
theorem Instr.wf_apertureTransfer {r : Fin 8} {d : Direction} {o : BitVec 28} {n : Nat} {data : List Byte}
    (h : (Instr.apertureTransfer r d o n data).wf = true) : d = .write → data.length = n := by
  rintro rfl
  exact of_decide_eq_true (Bool.and_eq_true_iff.mp h).1

theorem Moves.returnTo (x : Transfer) {e : Fin 16} {h : Held} (he : s.hrt.entries[e] = some h) :
    Moves c s (s.returnTo x e h) := by
  unfold State.returnTo
  split
  · exact Moves.refuse _
  · cases hp : h.phase with
    | queued | issued => exact (Move.answered _).alone
    | ready | failed =>
      have done : h.inFlight = false := by simp [Held.inFlight, hp]
      exact (Move.collected e h he done).alone.tail (.answered _)

theorem Moves.acceptPosted {x : Transfer} (hdata : c.wf = true → x.data.length = x.size) (hit : Hit) :
    Moves c s (s.acceptPosted x hit) := by
  unfold State.acceptPosted
  split
  · exact Moves.refuse _
  · next hup =>
    split
    · exact (Move.answered _).alone
    · next hroom =>
      exact (Move.posted (x.postedWrite hit) (Bool.eq_false_iff.mpr hup) (Nat.lt_of_not_le hroom) hdata).alone.tail
        (.answered _)

theorem Moves.holdRequest {x : Transfer} (hdata : c.wf = true → x.direction = .write → x.data.length = x.size)
    (hsize : sizeRule x.offset x.size = true) (hkey : ∀ f : Fin 16, ∀ h ∈ s.hrt.entries[f], h.key ≠ x.key) (hit : Hit) :
    Moves c s (s.holdRequest x hit) := by
  unfold State.holdRequest
  split
  · exact Moves.refuse _
  · next hup =>
    split
    · exact Moves.refuse _
    · unfold State.createEntry
      split
      · exact (Move.answered _).alone
      · next hlimit =>
        cases hf : s.hrt.lowestFree with
        | none => exact (Move.answered _).alone
        | some e =>
          exact (Move.created x hit e hsize hkey (Bool.eq_false_iff.mpr hup) (Bool.eq_false_iff.mpr hlimit)
            (Hrt.lowestFree_eq_some.mp hf).1 hdata).alone.tail (.answered _)

theorem Moves.intake {x : Transfer} (hdata : c.wf = true → x.direction = .write → x.data.length = x.size) :
    Moves c s (s.intake x) := by
  unfold State.intake
  by_cases hsize : sizeRule x.offset x.size = true
  · rw [if_neg (by simp [hsize])]
    cases hk : s.hrt.entryWithKey x.key with
    | some found => exact Moves.returnTo x (Hrt.entryWithKey_some hk).1
    | none =>
      have hkey := Hrt.entryWithKey_none.mp hk
      simp only
      split
      · exact (Move.answered _).alone
      · unfold State.decodeStep
        split
        · exact Moves.refuse _
        · split
          · exact Moves.refuse _
          · next hdir _ => exact Moves.acceptPosted (fun hwf => hdata hwf hdir) _
          · exact Moves.holdRequest hdata hsize hkey _
  · rw [if_pos (by simp [hsize])]
    exact Moves.refuse _

/-! ### The link controller -/

theorem Moves.retrain (reason : RetrainReason) : Moves c s (s.retrain reason) := by
  by_cases h : s.ltc.link = .active
  · rw [State.retrain_active h]
    exact (Move.retrained reason h).alone
  · rw [State.retrain_ignored h]
    exact .refl

theorem Moves.failRequest : Moves c s s.failRequest := by
  by_cases h : s.ltc.link = .active
  · rw [State.failRequest_active h]
    exact (Move.failed _ (.inl h)).alone
  · rw [State.failRequest_ignored h]
    exact .refl

theorem Moves.commandEffect {t : State} {code : BitVec 4} (h : s.commandEffect code = some t) : Moves c s t := by
  unfold State.commandEffect at h
  split at h <;> simp only [Option.some.injEq, reduceCtorEq] at h <;> subst h
  · next hl => exact (Move.freshStart (.inl hl)).alone
  · next hl => exact (Move.freshStart (.inr hl)).alone
  · exact Moves.retrain _
  · next hl => exact (Move.disabled hl).alone

theorem Moves.linkCommand (code : BitVec 4) : Moves c s (s.linkCommand code) := by
  by_cases hz : code = 0
  · rw [hz, State.linkCommand_zero]
    exact .refl
  · cases he : s.commandEffect code with
    | none =>
      rw [State.linkCommand_refused hz he]
      exact (Move.commandStatus _ _).alone
    | some t =>
      rw [State.linkCommand_accepted hz he]
      exact (Moves.commandEffect he).tail (.commandStatus _ _)

/-! ### Register writes -/

theorem atLeastOne_ne_zero {w : Nat} (x : BitVec (w + 1)) : atLeastOne x ≠ 0 := by
  unfold atLeastOne
  split
  · exact fun h => absurd (congrArg BitVec.toNat h) (by simp)
  · next h => exact h

theorem oneToFour_range : ∀ x : BitVec 3, 1 ≤ (oneToFour x).toNat ∧ (oneToFour x).toNat ≤ 4 := by decide

theorem oneToSixteen_range : ∀ x : BitVec 5, 1 ≤ (oneToSixteen x).toNat ∧ (oneToSixteen x).toNat ≤ 16 := by decide

theorem State.writeRegister_functionResetCommand (v : Word) (s : State) :
    s.writeRegister .functionResetCommand v = if v.getLsbD 0 then s.functionReset else s := rfl

theorem State.writeRegister_replayCounter (v : Word) (s : State) :
    s.writeRegister .replayCounter v = if v.getLsbD 16 then s.clearWrapFlag else s := rfl

theorem Moves.writeRegister (r : Register) (v : Word) : Moves c s (s.writeRegister r v) := by
  cases r with
  | generalControl => exact (Move.general _ _ s.reg.tbdiv id).alone
  | tbdiv => exact (Move.general _ _ _ fun _ => atLeastOne_ne_zero _).alone
  | functionResetCommand =>
    rw [State.writeRegister_functionResetCommand]
    exact Moves.ite fun _ => Move.functionReset.alone
  | linkCommand => exact Moves.linkCommand _
  | grades => exact (Move.trainingControls _ _ _ _ _ id id).alone
  | trainingControls =>
    exact (Move.trainingControls _ _ _ _ _ (fun _ => atLeastOne_ne_zero _) fun _ => atLeastOne_ne_zero _).alone
  | retryControls => exact (Move.retryControls _ _ _ (atLeastOne_ne_zero _) (oneToFour_range _)).alone
  | replayCounter =>
    rw [State.writeRegister_replayCounter]
    exact Moves.ite fun _ => Move.wrapFlagCleared.alone
  | ackControls =>
    exact (Move.ackControls _ _ _ (oneToSixteen_range _) (atLeastOne_ne_zero _) (atLeastOne_ne_zero _)).alone
  | windowControl | windowBase | remoteBaseLow | remoteBaseHigh => exact (Move.windows _).alone
  | requesterRecord => exact (Move.requesterWritten _ _ _ _).alone
  | discardInterval => exact (Move.heldControls _ _ fun _ => atLeastOne_ne_zero _).alone
  | lapseThreshold => exact (Move.heldControls s.hrt.discardInterval _ id).alone
  | completionTimeout => exact (Move.timeoutWritten _ (atLeastOne_ne_zero _)).alone
  | remotePending => exact (Move.events _ fun h => Evu.clearRemote_consistent h _).alone
  | remoteEnable | remoteRoute | localPending | localEnable | localRoute =>
    exact (Move.events _ fun h => Evu.redriven_consistent h _ _ _ _ _).alone
  | faultClear =>
    rw [State.writeRegister_faultClear]
    exact Moves.ite fun _ => (Move.events _ Evu.emptyFault_consistent).alone
  | _ => exact .refl

theorem Moves.registerWrite (offset : BitVec 12) (size : Nat) (v : Word) :
    Moves c s (s.registerWrite offset size v) := by
  unfold State.registerWrite
  split
  · refine Moves.tail ?_ (.answered _)
    cases registerAt offset.toNat with
    | none => exact .refl
    | some r => exact Moves.writeRegister r v
  · exact (Move.answered _).alone

/-! ### Acknowledgement and replay -/

theorem Moves.acknowledge (h : s.ltc.link = .active) (n : BitVec 7) : Moves c s (s.acknowledge n) := by
  rcases s.acknowledge_cases n with ⟨hc, he⟩ | ⟨-, he⟩ | ⟨-, he⟩ <;> rw [he]
  · have found : ∃ f ∈ s.ltx.buffer, f.number = n := by
      refine Classical.byContradiction fun hn => ?_
      have hnot : ∀ f ∈ s.ltx.buffer, f.number ≠ n := fun f hf hfn => hn ⟨f, hf, hfn⟩
      by_cases hs : n = s.ltx.oldest.getD s.ltx.next - 1
      · rw [Ltx.ackClass_stale hnot hs] at hc
        cases hc
      · rw [Ltx.ackClass_outOfRange hnot hs] at hc
        cases hc
    exact (Move.progressed n h found).alone
  · exact .refl
  · exact Moves.report _

/-- A replay is due in ACTIVE, or at the expiry of the replay timer. -/
theorem Moves.replayDue (h : s.ltc.link = .active ∨ s.ltx.replayTimer ≠ none) : Moves c s s.replayDue := by
  rcases s.replayDue_cases with ⟨hs, he⟩ | ⟨-, he⟩
  · rw [he]
    exact (Move.passStarted h hs).alone
  · rw [he]
    rcases s.longRetryDue_cases with ⟨hl, he⟩ | ⟨-, he⟩
    · rw [he]
      exact ((Move.longRetried hl).alone.trans (Moves.raise _)).trans (Moves.retrain _)
    · rw [he]
      exact Moves.failRequest

end Sys2Proof.Machine
end

section
/-! SUPPORT. The changes that the commands of the link make, and that every command answers a next state. -/

namespace Sys2Proof.Machine

variable {c : Instr} {s : State}

/-! ### Received frames -/

theorem Moves.accepted {active training : State → State}
    (hactive : s.goodFrame.ltc.link = .active → Moves c s.goodFrame (active s.goodFrame))
    (htraining : s.ltc.link ≠ .active → Moves c s (training s)) : Moves c s (s.accepted active training) := by
  by_cases h : s.ltc.link = .active
  · rw [State.accepted_active h]
    exact .head .goodFrame (hactive h)
  · rw [State.accepted_training h]
    exact htraining h

theorem Moves.badFrame (h : s.ltc.link = .active) : Moves c s s.badFrame := by
  rcases Bool.eq_false_or_eq_true s.lrx.nakOpen with hn | hn
  · rw [State.badFrame_open hn]
    exact .refl
  · rw [State.badFrame_closed hn]
    exact (Move.nakOpened h).alone

theorem Moves.sequenced (h : s.ltc.link = .active) {n : BitVec 7} {owner : State → State}
    (howner : Moves c s.delivered (owner s.delivered)) : Moves c s (s.sequenced n owner) := by
  rcases s.sequenced_cases n owner with ⟨-, he⟩ | ⟨-, -, he⟩ | ⟨-, -, he⟩ <;> rw [he]
  · exact .head (.delivered h) howner
  · exact (Move.ackDue h).alone
  · exact Moves.badFrame h

theorem Moves.reportOutcome (e : Fin 16) (h : Held) (tag : Fin 32) (status : CpStatus) (data : List Byte) :
    Moves c s (s.reportOutcome e h tag status data) := by
  unfold State.reportOutcome
  split
  · exact .refl
  · exact Moves.report _
  · exact Moves.report _

theorem Hrt.entryWithTag_none {t : Hrt} {tag : Fin 32} :
    t.entryWithTag tag = none ↔ ∀ e : Fin 16, ∀ h ∈ t.entries[e], h.holdsTag tag = false := by
  rw [Hrt.entryWithTag, List.findSome?_eq_none_iff]
  refine ⟨fun none e h held => ?_, fun all e _ => ?_⟩
  · have here := none e (List.mem_finRange e)
    rw [Option.mem_def.mp held] at here
    cases ht : h.holdsTag tag with
    | false => rfl
    | true => simp [ht] at here
  · cases held : t.entries[e] with
    | none => rfl
    | some h => simp [all e h held]

theorem Moves.takeCompletion (tag : Fin 32) (status : CpStatus) (data : List Byte) :
    Moves c s (s.takeCompletion tag status data) := by
  unfold State.takeCompletion
  split
  · exact Moves.report _
  · split
    · unfold State.deliverCompletion
      cases hf : s.hrt.entryWithTag tag with
      | none => exact (Move.tagFreed tag (.inr (Hrt.entryWithTag_none.mp hf))).alone
      | some found =>
        obtain ⟨he, ht⟩ := Hrt.entryWithTag_some hf
        exact .head (.completed _ _ tag status data he ht) (Moves.reportOutcome _ _ _ _ _)
    · next hq => exact .head (.tagFreed tag (.inl hq)) (Moves.raise _)
    · exact Moves.report _

theorem Moves.takeEvent (kind : BitVec 4) (body : Vector Byte 7) : Moves c s (s.takeEvent kind body) := by
  unfold State.takeEvent
  split
  · exact (Move.events _ fun h => Evu.signal_consistent h _).alone
  · exact Moves.report _
  · exact Moves.report _

theorem State.acknowledge_ltc (n : BitVec 7) (s : State) : (s.acknowledge n).ltc = s.ltc := by
  rcases s.acknowledge_cases n with ⟨-, he⟩ | ⟨-, he⟩ | ⟨-, he⟩ <;> exact (congrArg State.ltc he).trans rfl

theorem Moves.takeNk (h : s.ltc.link = .active) (n : BitVec 7) : Moves c s (s.takeNk n) := by
  have acked : Moves c s (s.acknowledge n) := Moves.acknowledge h n
  unfold State.takeNk
  simp only
  split
  · exact acked
  · split
    · exact acked.trans (Moves.replayDue (.inl (by rw [State.acknowledge_ltc, h])))
    · exact acked

theorem Moves.takeCredits (total : BitVec 8) : Moves c s (s.takeCredits total) := by
  unfold State.takeCredits
  split
  · next h => exact (Move.credited total h).alone
  · exact Moves.report _

theorem Moves.activeSk (h : s.ltc.link = .active) (grade : Grade) : Moves c s (s.activeSk grade) := by
  have seek : (s.retrain .partner).ltc.link = .seek := by rw [State.retrain_active h]; rfl
  unfold State.activeSk
  exact (Moves.retrain _).trans (Moves.ite fun _ => (Move.skCounted 1 (by decide) seek).alone)

theorem Moves.trainSk (grade : Grade) : Moves c s (s.trainSk grade) := by
  unfold State.trainSk
  split
  · next h =>
    split
    · unfold State.countSk
      simp only
      split
      · exact (Move.aligned _ (Nat.le_refl _) h).alone
      · next hlt => exact (Move.skCounted _ (by omega) h).alone
    · exact (Move.skCounted 0 (by decide) h).alone
  · exact .refl

theorem Moves.trainAl (index : BitVec 8) : Moves c s (s.trainAl index) := by
  unfold State.trainAl
  split
  · next h => exact Moves.ite fun _ => (Move.aligned s.ltc.skRun (Nat.le_succ _) h).alone
  · next h =>
    have taken : Moves c s { s with ltc := { s.ltc with alRun := some index } } := (Move.alTaken index h).alone
    unfold State.alignAl
    simp only
    split
    · exact taken
    · refine taken.trans (Moves.ite fun _ => Move.alone (Move.exchanged ?_))
      exact h
  · exact .refl

theorem Moves.validPm {n : BitVec 4} {q w : BitVec 8} (h : s.ltc.link = .exchange) (hn : n ≠ 0)
    (hq : 1 ≤ q.toNat ∧ q.toNat ≤ 32) (hw : 1 ≤ w.toNat ∧ w.toNat ≤ 64) : Moves c s (s.validPm n q w) := by
  unfold State.validPm
  split
  · next hnone => exact (Move.sessionStarted n _ _ hn hq hw h hnone).alone
  · next hstands =>
    split
    · exact (Move.sessionResumed h hstands).alone
    · exact (Move.sessionEnded h).alone

theorem Moves.trainPm (n : BitVec 4) (g : Grade) (q w : BitVec 8) : Moves c s (s.trainPm n g q w) := by
  unfold State.trainPm
  split
  · next h => exact Moves.ite fun _ => (Move.exchanged h).alone
  · next h =>
    split
    · exact Moves.report _
    · next hvalid =>
      obtain ⟨-, hn, hq, hw⟩ := Ltc.failedCheck_eq_none_iff.mp hvalid
      exact Moves.validPm h hn hq hw
  · exact .refl

theorem Moves.activePm (n : BitVec 4) (g : Grade) (q w : BitVec 8) : Moves c s (s.activePm n g q w) := by
  unfold State.activePm
  split
  · exact .refl
  · exact Moves.retrain _

/-- A bad frame and the end of the line-loss run touch different items, so their order does not matter. -/
theorem State.goodFrame_badFrame (run : Nat) (s : State) :
    { s with lrx := { s.lrx with lineLossRun := run } }.badFrame.goodFrame = s.goodFrame.badFrame := by
  cases h : s.lrx.nakOpen with
  | true => simp [State.badFrame, State.goodFrame, h]
  | false => simp [State.badFrame, State.goodFrame, Lrx.lastGood, h]

theorem Moves.corruptFrame (h : s.ltc.link = .active) : Moves c s s.corruptFrame := by
  unfold State.corruptFrame
  simp only
  split
  · rw [State.goodFrame_badFrame]
    exact (Moves.head .goodFrame (Moves.badFrame (s := s.goodFrame) h)).trans (Moves.retrain _)
  · next hlt => exact (Move.lossCounted (Nat.lt_of_not_le hlt)).alone.trans (Moves.badFrame h)

/-! ### Timers -/

theorem Moves.completionExpiry {e : Fin 16} {h : Held} {tag : Fin 32} {n : Nat} (he : s.hrt.entries[e] = some h)
    (hp : h.phase = .issued tag n) : Moves c s (s.completionExpiry e h tag) :=
  ((Move.quarantined e h tag n he hp).alone.trans (Moves.raise _)).trans (Moves.report _)

theorem Moves.discardExpiry {e : Fin 16} {h : Held} (he : s.hrt.entries[e] = some h) (hdone : h.inFlight = false) :
    Moves c s (s.discardExpiry e h) := by
  have gone : Moves c s { s with hrt := s.hrt.discard e h.requester } := (Move.discarded e h he hdone).alone
  unfold State.discardExpiry
  simp only
  split
  · exact gone.trans (Moves.raise _)
  · exact gone

/-- The replay timer stops. -/
def State.stopReplay (s : State) : State := { s with ltx := { s.ltx with replayTimer := none } }

@[simp] theorem State.stopReplay_ltc (s : State) : s.stopReplay.ltc = s.ltc := rfl

theorem State.stopReplay_retrain (reason : RetrainReason) (s : State) :
    s.stopReplay.retrain reason = (s.retrain reason).stopReplay := by
  by_cases h : s.ltc.link = .active
  · rw [State.retrain_active h, State.retrain_active (s := s.stopReplay) h]
    rfl
  · rw [State.retrain_ignored h, State.retrain_ignored (s := s.stopReplay) h]

theorem State.stopReplay_failRequest (s : State) : s.stopReplay.failRequest = s.failRequest.stopReplay := by
  by_cases h : s.ltc.link = .active
  · rw [State.failRequest_active h, State.failRequest_active (s := s.stopReplay) h]
    simp only [State.enterFailed, State.teardown, State.raise, State.stopReplay, Ltx.teardown]
  · rw [State.failRequest_ignored h, State.failRequest_ignored (s := s.stopReplay) h]

/-- The replay timer may stop before the replay that it makes due or after it: the replay does not look at the timer. -/
theorem State.stopReplay_replayDue (s : State) : s.stopReplay.replayDue = s.replayDue.stopReplay := by
  unfold State.replayDue State.longRetryDue
  rw [State.stopReplay_failRequest]
  split
  · next h => rw [if_pos (show s.ltx.shortRetry < s.ltx.shortLimit.toNat from h)]; rfl
  · next h =>
    rw [if_neg (show ¬ s.ltx.shortRetry < s.ltx.shortLimit.toNat from h)]
    split
    · next hl =>
      rw [if_pos (show s.ltx.longRetry < s.ltx.longLimit.toNat from hl), ← State.stopReplay_retrain]
      rfl
    · next hl => rw [if_neg (show ¬ s.ltx.longRetry < s.ltx.longLimit.toNat from hl)]

theorem Moves.replayTimerExpiry (h : s.ltx.replayTimer ≠ none) : Moves c s s.stopReplay.replayDue := by
  rw [State.stopReplay_replayDue]
  exact (Moves.replayDue (.inr h)).tail .replayTimerStopped

theorem Moves.limitCheck (h : s.ltc.link = .seek) : Moves c s s.limitCheck := by
  unfold State.limitCheck
  split
  · exact .refl
  · split
    · exact .head (.fellBack h) (Moves.raise _)
    · exact (Move.failed _ (.inr h)).alone

/-! ### The transmit pair -/

theorem State.activeChoice_eq_some {s : State} {k : Choice} :
    s.activeChoice = some k ↔ s.ltc.link = .active ∧ s.ltx.choice = k := by
  unfold State.activeChoice
  by_cases h : s.ltc.link = .active
  · simp [h]
  · simp [h]

theorem Ltx.choice_eq_newFrame {x : Ltx} :
    x.choice = .newFrame ↔ x.nkDue = none ∧ x.akDue = false ∧ x.pass = none ∧ x.buffer.length < 32 := by
  unfold Ltx.choice
  cases x.nkDue with
  | some n => simp
  | none =>
    cases x.akDue with
    | true => simp
    | false =>
      cases x.pass with
      | some p => simp
      | none =>
        by_cases h : x.buffer.length < 32
        · simp [h]
        · simp [h]

/-- A slot sets the last contested record, or leaves it as it was. -/
theorem State.recordContest_eq (s : State) :
    ∃ path, s.recordContest = { s with pwq := { s.pwq with lastContested := path } } := by
  unfold State.recordContest
  split
  · exact ⟨_, rfl⟩
  · exact ⟨s.pwq.lastContested, rfl⟩

theorem State.slotPath_eq_posted {s : State} (h : s.slotPath = some .posted) : s.postedCanGo = true := by
  unfold State.slotPath at h
  cases hp : s.postedCanGo with
  | true => rfl
  | false => cases hh : s.heldCanGo <;> simp [hp, hh] at h

theorem Moves.depart (hcredit : 1 ≤ s.isu.creditsAvailable) (h : s.ltc.link = .active)
    (hroom : s.ltx.buffer.length < 32) : Moves c s s.depart := by
  cases hq : s.pwq.queue with
  | nil =>
    rw [State.depart, hq]
    exact .refl
  | cons w rest =>
    rw [State.depart, hq]
    exact (Move.departed w rest hq hcredit h hroom).alone

theorem Moves.issue (h : s.ltc.link = .active) (hroom : s.ltx.buffer.length < 32) : Moves c s s.issue := by
  unfold State.issue
  split
  · next g tag hg ht =>
    cases hc : s.hrt.candidate g.requester with
    | none => exact .refl
    | some found => exact (Move.issued g tag _ _ hg ht hc h hroom).alone
  · exact .refl

theorem Moves.newFrameSlot (h : s.ltc.link = .active) (hroom : s.ltx.buffer.length < 32) :
    Moves c s s.newFrameSlot := by
  obtain ⟨path, hr⟩ := s.recordContest_eq
  have contested : Moves c s { s with pwq := { s.pwq with lastContested := path } } := (Move.contested path).alone
  unfold State.newFrameSlot
  rw [hr]
  split
  · exact Move.pairIdle.alone
  · next hp =>
    have credit : 1 ≤ s.isu.creditsAvailable :=
      of_decide_eq_true (Bool.and_eq_true_iff.mp (State.slotPath_eq_posted hp)).2
    exact contested.trans (Moves.depart credit h hroom)
  · exact contested.trans (Moves.issue h hroom)

/-- A frame is sent in ACTIVE or in a training state: the link is up. -/
theorem Moves.send {l : LinkState} (h : s.ltc.link = l) (bytes : List Byte) (hoff : l ≠ .off := by decide)
    (hfailed : l ≠ .failed := by decide) : Moves c s (s.send bytes) :=
  (Move.sent bytes (h ▸ hoff) (h ▸ hfailed)).alone

/-- A change, and then a frame of a state in which the link is up. -/
theorem Move.thenSend {t : State} {l : LinkState} (m : Move c s t) (h : t.ltc.link = l) (bytes : List Byte)
    (hoff : l ≠ .off := by decide) (hfailed : l ≠ .failed := by decide) : Moves c s (t.send bytes) :=
  m.alone.trans (Moves.send h bytes hoff hfailed)

theorem Moves.resend (h : s.ltc.link = .active) (p : BitVec 7) : Moves c s (s.resend p) := by
  have inBuffer := (List.dropWhile_sublist (l := s.ltx.buffer) fun f => f.number != p).subset
  unfold State.resend
  split
  · exact Move.passEnded.alone
  · next f hf =>
    have mem : f ∈ s.ltx.buffer := inBuffer (hf ▸ List.mem_singleton.mpr rfl)
    refine .head (.replayTimerStarted h (List.ne_nil_of_mem mem)) (Move.passEnded.thenSend (l := .active) ?_ _)
    exact h
  · next f g _ hf =>
    have mem : g ∈ s.ltx.buffer := inBuffer (hf ▸ List.mem_cons_of_mem _ List.mem_cons_self)
    exact (Move.passMoved g h mem).thenSend h _

end Sys2Proof.Machine
end

section
/-! SUPPORT. Every command answers a next state that its changes reach, and what a step on an empty queue does; with the
obligation that no command stops the machine or touches the queue (O3), and the rule that proves an invariant of steps. -/

namespace Sys2Proof.Machine

/-! ### Commands -/

/-- What a command comes to: the rows of the pin act at any time; while RESET_N is low every other command is refused or
ignored, and while it is high it makes its changes. -/
inductive Ran (c : Instr) (s : State) : State → Prop where
  | held : Ran c s s.heldInReset
  | released : Ran c s { s with resetN := true }
  | refused (low : s.resetN = false) : Ran c s (s.answered .fault)
  | ignored (low : s.resetN = false) : Ran c s s
  | moved {t : State} (high : s.resetN = true) (m : Moves c s t) : Ran c s t

variable {c : Instr} {s : State}

theorem Ran.hostTransfer {f : State → State} (h : Moves c s (f s)) : ∃ t, s.hostTransfer f = .next t ∧ Ran c s t := by
  cases hr : s.resetN with
  | true => exact ⟨_, State.hostTransfer_high hr f, .moved hr h⟩
  | false => exact ⟨_, State.hostTransfer_low hr f, .refused hr⟩

theorem Ran.takenWrite {f : State → State} (h : Moves c s (f s)) : ∃ t, s.takenWrite f = .next t ∧ Ran c s t :=
  Ran.hostTransfer (h.tail (.answered _))

theorem Ran.powered {f : State → State} (h : Moves c s (f s)) : ∃ t, s.powered f = .next t ∧ Ran c s t := by
  cases hr : s.resetN with
  | true => exact ⟨_, State.powered_high hr f, .moved hr h⟩
  | false => exact ⟨_, State.powered_low hr f, .ignored hr⟩

theorem Ran.accepted {active training : State → State}
    (hactive : s.goodFrame.ltc.link = .active → Moves c s.goodFrame (active s.goodFrame))
    (htraining : s.ltc.link ≠ .active → Moves c s (training s)) :
    ∃ t, s.powered (State.accepted active training) = .next t ∧ Ran c s t :=
  Ran.powered (Moves.accepted hactive htraining)

/-- Every command answers a next state that its changes reach. -/
theorem exec_ran (c : Instr) (s : State) : ∃ t, exec c s = .next t ∧ Ran c s t := by
  cases c with
  | apertureTransfer r d o n data => exact Ran.hostTransfer (Moves.intake Instr.wf_apertureTransfer)
  | registerWrite => exact Ran.hostTransfer (Moves.registerWrite _ _ _)
  | functionReset => exact Ran.takenWrite Move.functionReset.alone
  | enable | restart | retrain | disable | unassignedLinkCommand => exact Ran.takenWrite (Moves.linkCommand _)
  | clearLapse => exact Ran.takenWrite (Move.requesterWritten _ _ _ _).alone
  | clearWrapFlag => exact Ran.takenWrite Move.wrapFlagCleared.alone
  | clearRemoteSource =>
    exact Ran.takenWrite (f := fun s => { s with evu := s.evu.clearRemote _ })
      (Move.events _ fun h => Evu.clearRemote_consistent h _).alone
  | clearLocalCause =>
    exact Ran.takenWrite (f := fun s => { s with evu := s.evu.clearLocal _ })
      (Move.events _ fun h => Evu.redriven_consistent h _ _ _ _ _).alone
  | faultRecordClear =>
    exact Ran.takenWrite (f := fun s => { s with evu := s.evu.emptyFault })
      (Move.events _ Evu.emptyFault_consistent).alone
  | chipReset => exact ⟨_, rfl, .held⟩
  | chipResetRelease => exact ⟨_, rfl, .released⟩
  | cpReceived =>
    exact Ran.accepted (fun h => Moves.sequenced h (Moves.takeCompletion _ _ _)) fun _ => .refl
  | evReceived => exact Ran.accepted (fun h => Moves.sequenced h (Moves.takeEvent _ _)) fun _ => .refl
  | akReceived => exact Ran.accepted (fun h => Moves.acknowledge h _) fun _ => .refl
  | nkReceived => exact Ran.accepted (fun h => Moves.takeNk h _) fun _ => .refl
  | crReceived => exact Ran.accepted (fun _ => Moves.takeCredits _) fun _ => .refl
  | skReceived => exact Ran.accepted (fun h => Moves.activeSk h _) fun _ => Moves.trainSk _
  | alReceived => exact Ran.accepted (fun _ => Moves.retrain _) fun _ => Moves.trainAl _
  | pmReceived => exact Ran.accepted (fun _ => Moves.activePm _ _ _ _) fun _ => Moves.trainPm _ _ _ _
  | corruptFrameReceived => exact Ran.powered (Moves.ite Moves.corruptFrame)
  | rejectedFrameReceived =>
    exact Ran.powered (Moves.ite fun h => .head .goodFrame (Moves.badFrame (s := s.goodFrame) h))
  | completionTimerExpiry e =>
    rw [exec_completionTimerExpiry, execCompletionTimerExpiry]
    refine Ran.powered ?_
    cases he : s.hrt.entries[e] with
    | none => exact .refl
    | some h =>
      cases hp : h.phase with
      | issued => simpa only [hp] using Moves.completionExpiry he hp
      | _ => simpa only [hp] using Moves.refl
  | discardTimerExpiry e =>
    rw [exec_discardTimerExpiry, execDiscardTimerExpiry]
    refine Ran.powered ?_
    cases he : s.hrt.entries[e] with
    | none => exact .refl
    | some h =>
      simp only
      split
      · exact .refl
      · next hf => exact Moves.discardExpiry he (Bool.eq_false_iff.mpr hf)
  | replayTimerExpiry =>
    rw [exec_replayTimerExpiry, execReplayTimerExpiry]
    refine Ran.powered ?_
    cases ht : s.ltx.replayTimer with
    | none => exact .refl
    | some n =>
      have running : s.ltx.replayTimer ≠ none := by rw [ht]; exact Option.some_ne_none n
      cases hp : s.ltx.pass with
      | none => exact Moves.replayTimerExpiry running
      | some p => exact Move.replayTimerStopped.alone
  | ackDelayTimerExpiry =>
    rw [exec_ackDelayTimerExpiry, execAckDelayTimerExpiry]
    refine Ran.powered ?_
    cases ht : s.lrx.ackDelayTimer with
    | none => exact .refl
    | some n => exact (Move.ackDelayExpired (by rw [ht]; exact Option.some_ne_none n)).alone
  | seekWindowExpiry =>
    rw [exec_seekWindowExpiry, execSeekWindowExpiry]
    refine Ran.powered ?_
    cases ht : s.ltc.seekTimer with
    | none => exact .refl
    | some n => exact .head (.attemptCounted (by rw [ht]; exact Option.some_ne_none n)) (Moves.limitCheck rfl)
  | alignCountExpiry => exact Ran.powered (Moves.ite fun h => (Move.exchanged h.1).alone)
  | newFrameSlot =>
    rw [exec_newFrameSlot, execNewFrameSlot]
    refine Ran.powered ?_
    split
    · next hc =>
      obtain ⟨hactive, hchoice⟩ := State.activeChoice_eq_some.mp hc
      exact Moves.newFrameSlot hactive (Ltx.choice_eq_newFrame.mp hchoice).2.2.2
    · exact Move.pairIdle.alone
    · exact .refl
  | sendNk =>
    rw [exec_sendNk, execSendNk]
    refine Ran.powered ?_
    split
    · next hc => exact Move.nkSent.thenSend (State.activeChoice_eq_some.mp hc).1 _
    · exact .refl
  | sendAk =>
    exact Ran.powered (Moves.ite fun hc => Move.akSent.thenSend (State.activeChoice_eq_some.mp hc).1 _)
  | replayPassResend =>
    rw [exec_replayPassResend, execReplayPassResend]
    refine Ran.powered ?_
    split
    · next hc => exact Moves.resend (State.activeChoice_eq_some.mp hc).1 _
    · exact .refl
  | sendSk => exact Ran.powered (Moves.ite fun h => Moves.send h _)
  | sendAl => exact Ran.powered (Moves.ite fun h => (Move.alignIndexed (s.ltx.alignIndex + 1)).thenSend h _)
  | sendPm => exact Ran.powered (Moves.ite fun h => Moves.send h _)

/-- Settles O3: a command's changes leave the queue, the receive pair and the counter alone, and so do the two rows of
the pin. -/
theorem noCommandStopsOrTouchesTheQueue : Obligations.NoCommandStopsOrTouchesTheQueue := by
  intro c s
  obtain ⟨t, ht, ran⟩ := exec_ran c s
  refine ⟨t, ht, ?_⟩
  cases ran with
  | moved _ m =>
    obtain ⟨hpending, hline, hdraws, -⟩ := m.frame
    exact ⟨hpending, hline, hdraws⟩
  | _ => exact ⟨rfl, rfl, rfl⟩

/-! ### A step on an empty queue -/

/-- What a step on an empty queue comes to: while RESET_N is low the receive pair alone moves on; while it is high a host
clock passes, a tick ends, or a symbol of the receive pair is taken. -/
inductive Passes (s : State) : State → Prop where
  | waited (line : List LineSymbol) (low : s.resetN = false) : Passes s { s with rxLine := line }
  | clocked (line : List LineSymbol) (clocks : Nat) (high : s.resetN = true) :
      Passes s { s with rxLine := line, reg := { s.reg with clocksLeft := clocks } }
  | ticked (line : List LineSymbol) (clocks : Nat) (events : List Instr) (draws : Nat) (high : s.resetN = true)
      (hevents : events.Perm s.countTick.expiries) :
      Passes s { s.countTick with
        rxLine := line, reg := { s.reg with clocksLeft := clocks }
        pending := s.pending ++ events, freeDraws := draws }
  | taken (line : List LineSymbol) (x : LineSymbol) (high : s.resetN = true) :
      Passes s { s with
        rxLine := line
        lrx := { s.lrx with framing := (receiveSymbol s.lrx.framing x).1 }
        pending := s.pending ++ (receiveSymbol s.lrx.framing x).2.toList }

theorem State.hostClock_low {s : State} (h : s.resetN = false) : s.hostClock = s := by
  rw [State.hostClock, h]
  rfl

theorem State.hostClock_counts {s : State} (h : s.resetN = true) (hc : 1 < s.reg.clocksLeft) :
    s.hostClock = { s with reg := { s.reg with clocksLeft := s.reg.clocksLeft - 1 } } := by
  rw [State.hostClock, if_neg (by simp [h]), if_neg (Nat.not_le.mpr hc)]

theorem State.hostClock_ticks {s : State} (h : s.resetN = true) (hc : s.reg.clocksLeft ≤ 1) :
    s.hostClock = { s with reg := { s.reg with clocksLeft := s.reg.tbdiv.toNat } }.tick := by
  rw [State.hostClock, if_neg (by simp [h]), if_pos hc]

theorem State.takeSymbol_low {s : State} (h : s.resetN = false) (x : LineSymbol) : s.takeSymbol x = s := by
  rw [State.takeSymbol, h]
  rfl

theorem State.takeSymbol_high {s : State} (h : s.resetN = true) (x : LineSymbol) :
    s.takeSymbol x =
      { s with
        lrx := { s.lrx with framing := (receiveSymbol s.lrx.framing x).1 }
        pending := s.pending ++ (receiveSymbol s.lrx.framing x).2.toList } := by
  rw [State.takeSymbol, if_neg (by simp [h])]

theorem Passes.hostClock (line : List LineSymbol) (s : State) : Passes s { s with rxLine := line }.hostClock := by
  rcases Bool.eq_false_or_eq_true s.resetN with hr | hr
  · by_cases hc : s.reg.clocksLeft ≤ 1
    · rw [State.hostClock_ticks (s := { s with rxLine := line }) hr hc]
      exact .ticked line _ _ _ hr (takeInFreeOrder_perm _ _ _ (Nat.le_refl _))
    · rw [State.hostClock_counts (s := { s with rxLine := line }) hr (Nat.lt_of_not_le hc)]
      exact .clocked line _ hr
  · rw [State.hostClock_low (s := { s with rxLine := line }) hr]
    exact .waited line hr

theorem Passes.takeSymbol (line : List LineSymbol) (x : LineSymbol) (s : State) :
    Passes s ({ s with rxLine := line }.takeSymbol x) := by
  rcases Bool.eq_false_or_eq_true s.resetN with hr | hr
  · rw [State.takeSymbol_high (s := { s with rxLine := line }) hr]
    exact .taken line x hr
  · rw [State.takeSymbol_low (s := { s with rxLine := line }) hr]
    exact .waited line hr

theorem State.idle_passes (s : State) : Passes s s.idle := by
  unfold State.idle
  split
  · exact Passes.hostClock s.rxLine s
  · exact Passes.hostClock _ s
  · exact Passes.takeSymbol _ _ s
  · exact Passes.takeSymbol _ _ s

/-! ### Invariants of steps -/

theorem Moves.keeps {P : State → Prop} (move : ∀ {s t}, Move c s t → P s → P t) {t : State} (m : Moves c s t)
    (h : P s) : P t := by
  induction m with
  | refl => exact h
  | tail _ last ih => exact move last ih

/-- An invariant of every step: it holds in reset, each change keeps it, each step on an empty queue keeps it, and it lets
the front command go, of which it may say something (`ok`). -/
theorem step_keeps {P : State → Prop} {ok : Instr → Prop}
    (front : ∀ {s c rest}, s.pending = c :: rest → P s → ok c ∧ P { s with pending := rest })
    (held : ∀ {s}, P s → P s.heldInReset) (released : ∀ {s}, P s → P { s with resetN := true })
    (moved : ∀ {c s t}, ok c → Move c s t → P s → P t) (passed : ∀ {s t}, Passes s t → P s → P t) :
    ∀ s t : State, P s → step s = .next t → P t := by
  intro s t h hstep
  cases hp : s.pending with
  | nil =>
    rw [step_of_empty hp] at hstep
    injection hstep with hstep
    exact hstep ▸ passed s.idle_passes h
  | cons c rest =>
    rw [step_of_pending hp] at hstep
    obtain ⟨hok, hrest⟩ := front hp h
    obtain ⟨u, hu, ran⟩ := exec_ran c { s with pending := rest }
    rw [hu] at hstep
    injection hstep with hstep
    subst hstep
    cases ran with
    | held => exact held hrest
    | released => exact released hrest
    | refused => exact moved hok (.answered .fault) hrest
    | ignored => exact hrest
    | moved _ m => exact m.keeps (moved hok) hrest

end Sys2Proof.Machine
end

section
/-! SUPPORT. The invariants that look at few items: the interrupt lines (O53), the link down (O58), the stored controls, the
training state and the items while RESET_N is low (O59), and that reset meets every invariant (O52). -/

namespace Sys2Proof.Machine

variable {c : Instr} {s t : State}

/-! ### Reset -/

theorem State.reset_lines : State.reset.evu.consistent := by decide +kernel
theorem State.reset_heldTable : State.reset.hrt.consistent := by decide +kernel
theorem State.reset_writesOrdered : State.reset.writesOrdered := by decide +kernel
theorem State.reset_ledgerKept : State.reset.ledgerKept := by decide +kernel
theorem State.reset_replayKept : State.reset.replayKept := by decide +kernel
theorem State.reset_trainingKept : State.reset.ltc.trainingKept := by decide +kernel
theorem State.reset_downEmpty : State.reset.downEmpty := by decide +kernel
theorem State.reset_controlsInRange : State.reset.controlsInRange := by decide +kernel
theorem State.reset_dataFits : State.reset.dataFits := by decide +kernel
theorem State.reset_heldWhileLow : State.reset.heldWhileLow := by decide +kernel

/-- Settles O52: every item has its reset value, and each invariant is decidable there. -/
theorem resetMeetsEveryInvariant : Obligations.ResetMeetsEveryInvariant :=
  ⟨State.reset_lines, State.reset_heldTable, State.reset_writesOrdered, State.reset_ledgerKept,
    State.reset_replayKept, State.reset_trainingKept, State.reset_downEmpty, State.reset_controlsInRange,
    State.reset_dataFits, State.reset_heldWhileLow⟩

/-! ### The interrupt lines -/

theorem Move.keeps_lines (m : Move c s t) (h : s.evu.consistent) : t.evu.consistent := by
  cases m with
  | events e kept => exact kept h
  | functionReset => exact Evu.functionReset_consistent s.evu
  | disabled | failed =>
    simp only [State.disable_evu, State.enterFailed_evu]
    exact Evu.raise_consistent (Evu.writesDropped_consistent h _) _
  | sessionEnded =>
    rw [State.freshStart_evu, State.teardown_evu]
    exact Evu.writesDropped_consistent h _
  | sessionStarted | sessionResumed => exact Evu.raise_consistent h _
  | _ => exact h

theorem Passes.keeps_lines (p : Passes s t) (h : s.evu.consistent) : t.evu.consistent := by
  cases p with
  | _ => exact h

/-- Settles O53: each change of the event unit keeps its record consistent. -/
theorem stepKeepsInterruptLines : Obligations.StepKeepsInterruptLines :=
  step_keeps (ok := fun _ => True) (fun _ h => ⟨trivial, h⟩) (fun _ => State.reset_lines) id
    (fun _ m => m.keeps_lines) Passes.keeps_lines

/-! ### Entries in flight -/

theorem Hrt.noneInFlight_iff_forall {t : Hrt} :
    t.noneInFlight = true ↔ ∀ e : Fin 16, ∀ h ∈ t.entries[e], h.inFlight = false := by
  rw [Hrt.noneInFlight, List.all_eq_true]
  refine ⟨fun all e h held => ?_, fun all e _ => ?_⟩
  · have here := all e (List.mem_finRange e)
    rw [Option.mem_def.mp held] at here
    exact Bool.not_eq_true' _ ▸ here
  · cases held : t.entries[e] with
    | none => rfl
    | some h => exact Bool.not_eq_true' _ ▸ all e h held

/-- An entry of an updated table that comes from an entry of the table, changed by `f`. -/
theorem mem_entries_of_map {t u : Hrt} {f : Held → Held} {i : Fin 16} (hu : u.entries[i] = t.entries[i].map f) {h : Held}
    (hh : h ∈ u.entries[i]) : ∃ g ∈ t.entries[i], f g = h := by
  rw [hu] at hh
  exact Option.map_eq_some_iff.mp hh

/-- An entry that is left after one becomes FREE is another entry, moved up in its order. -/
theorem Hrt.mem_free {t : Hrt} {e i : Fin 16} {gone h : Held} (he : t.entries[e] = some gone)
    (hh : h ∈ (t.free e).entries[i]) : i ≠ e ∧ ∃ g ∈ t.entries[i], gone.moveUp g = h := by
  rw [Hrt.free_entries he] at hh
  by_cases hi : i = e
  · rw [if_pos hi] at hh
    cases hh
  · rw [if_neg hi] at hh
    exact ⟨hi, Option.map_eq_some_iff.mp hh⟩

theorem Held.moveUp_phase (gone h : Held) : (gone.moveUp h).phase = h.phase := by
  unfold Held.moveUp
  split <;> rfl

theorem Held.inFlight_of_phase {g h : Held} (hp : g.phase = h.phase) : g.inFlight = h.inFlight := by
  rw [Held.inFlight, Held.inFlight, hp]

theorem Held.inFlight_tick (h : Held) : h.tick.inFlight = h.inFlight := by
  cases hp : h.phase <;> simp [Held.tick, Held.inFlight, hp]

theorem Held.inFlight_afterTeardown (ticks : Nat) (h : Held) : (h.afterTeardown ticks).inFlight = false := by
  unfold Held.afterTeardown
  split
  · rfl
  · next hf => exact Bool.eq_false_iff.mpr hf

theorem Held.inFlight_of_holdsTag {tag : Fin 32} {h : Held} (ht : h.holdsTag tag = true) : h.inFlight = true := by
  obtain ⟨n, hp⟩ := Held.holdsTag_iff.mp ht
  exact Held.inFlight_iff.mpr (.inr ⟨tag, n, hp⟩)

theorem Hrt.noneInFlight_free {t : Hrt} {e : Fin 16} {gone : Held} (he : t.entries[e] = some gone)
    (h : t.noneInFlight = true) : (t.free e).noneInFlight = true := by
  rw [Hrt.noneInFlight_iff_forall] at h ⊢
  intro i k hk
  obtain ⟨-, g, hg, rfl⟩ := Hrt.mem_free he hk
  rw [Held.inFlight_of_phase (Held.moveUp_phase gone g)]
  exact h i g hg

theorem Hrt.noneInFlight_tick {t : Hrt} (h : t.noneInFlight = true) : t.tick.noneInFlight = true := by
  rw [Hrt.noneInFlight_iff_forall] at h ⊢
  intro i k hk
  obtain ⟨g, hg, rfl⟩ := mem_entries_of_map (t.tick_entries i) hk
  rw [Held.inFlight_tick]
  exact h i g hg

theorem Hrt.noneInFlight_teardown (t : Hrt) : t.teardown.noneInFlight = true := by
  rw [Hrt.noneInFlight_iff_forall]
  intro i k hk
  obtain ⟨g, -, rfl⟩ := mem_entries_of_map (t.teardown_entries i) hk
  exact Held.inFlight_afterTeardown _ g

theorem Hrt.noneInFlight_functionReset (t : Hrt) : t.functionReset.noneInFlight = true := by
  rw [Hrt.noneInFlight_iff_forall]
  intro i k hk
  simp [Hrt.functionReset] at hk

/-! ### The link down -/

theorem State.downEmpty_of_link {l : LinkState} (h : s.ltc.link = l) (hoff : l ≠ .off := by decide)
    (hfailed : l ≠ .failed := by decide) : s.downEmpty := fun down =>
  absurd down (not_or.mpr ⟨h ▸ hoff, h ▸ hfailed⟩)

/-- With nothing in flight and every other item of a session gone, the link may be down. -/
theorem State.downEmpty_of_teardown (hhrt : t.hrt = s.hrt.teardown) (hpwq : t.pwq = s.pwq.teardown)
    (hisu : t.isu = s.isu.teardown) (hltx : t.ltx = s.ltx.teardown) (htx : t.tx = .idleFill) : t.downEmpty := by
  intro _
  rw [hhrt, hpwq, hisu, hltx, htx]
  exact ⟨s.hrt.noneInFlight_teardown, rfl, rfl, fun u => by simp [Isu.teardown], rfl⟩

theorem State.not_linkDown (h : s.linkDown = false) : ¬ (s.ltc.link = .off ∨ s.ltc.link = .failed) :=
  not_or.mpr (State.linkDown_eq_false_iff.mp h)

theorem Move.keeps_downEmpty (m : Move c s t) (h : s.downEmpty) : t.downEmpty := by
  cases m with
  | functionReset =>
    intro _
    exact ⟨s.hrt.noneInFlight_functionReset, rfl, rfl, fun u => by simp [Isu.functionReset, Isu.teardown], rfl⟩
  | freshStart | retrained | sessionEnded | attemptCounted | fellBack =>
    exact State.downEmpty_of_link (l := .seek) rfl
  | aligned => exact State.downEmpty_of_link (l := .align) rfl
  | exchanged => exact State.downEmpty_of_link (l := .exchange) rfl
  | sessionStarted | sessionResumed => exact State.downEmpty_of_link (l := .active) rfl
  | disabled | failed => exact State.downEmpty_of_teardown (s := s) (by simp) (by simp) (by simp) (by simp) (by simp)
  | progressed _ hl | departed _ _ _ _ hl | issued _ _ _ _ _ _ _ hl => exact State.downEmpty_of_link hl
  | sent _ hoff hfailed => exact State.downEmpty_of_link rfl hoff hfailed
  | created _ _ _ _ _ hup | posted _ hup => exact fun down => absurd down (State.not_linkDown hup)
  | collected _ _ he | discarded _ _ he =>
    intro down
    obtain ⟨hnone, rest⟩ := h down
    exact ⟨Hrt.noneInFlight_free he hnone, rest⟩
  | quarantined e g tag n he hp =>
    intro down
    have idle := Hrt.noneInFlight_iff_forall.mp (h down).1 e g he
    rw [Held.inFlight_iff.mpr (.inr ⟨tag, n, hp⟩)] at idle
    cases idle
  | completed e g tag _ _ he ht =>
    intro down
    have idle := Hrt.noneInFlight_iff_forall.mp (h down).1 e g he
    rw [Held.inFlight_of_holdsTag ht] at idle
    cases idle
  | tagFreed tag =>
    intro down
    obtain ⟨hnone, hqueue, hbuffer, htags, htx⟩ := h down
    refine ⟨hnone, hqueue, hbuffer, fun u => ?_, htx⟩
    rw [Isu.setTag_tags, htags u, ite_self]
  | pairIdle =>
    intro down
    obtain ⟨hnone, hqueue, hbuffer, htags, -⟩ := h down
    exact ⟨hnone, hqueue, hbuffer, htags, rfl⟩
  | _ => exact h

theorem Passes.keeps_downEmpty (p : Passes s t) (h : s.downEmpty) : t.downEmpty := by
  cases p with
  | ticked =>
    intro down
    obtain ⟨hnone, rest⟩ := h down
    exact ⟨Hrt.noneInFlight_tick hnone, rest⟩
  | _ => exact h

/-- Settles O58: a change that goes to OFF or FAILED has torn the session down, and no change fills a link that is
down. -/
theorem stepKeepsDownLinkEmpty : Obligations.StepKeepsDownLinkEmpty :=
  step_keeps (ok := fun _ => True) (fun _ h => ⟨trivial, h⟩)
    (fun _ => State.reset_downEmpty) id (fun _ m => m.keeps_downEmpty) Passes.keeps_downEmpty

end Sys2Proof.Machine
end

section
/-! SUPPORT. The ranges of the controls and counters, kept by every change. -/

namespace Sys2Proof.Machine

variable {c : Instr} {s t : State}

/-! ### The stored controls -/

/-- The ranges of the stored controls and of the counts of the link, by name. -/
structure State.InRange (s : State) : Prop where
  discardInterval : s.hrt.discardInterval ≠ 0
  completionTimeout : s.isu.completionTimeout ≠ 0
  tbdiv : s.reg.tbdiv ≠ 0
  seekWindow : s.ltc.seekWindow ≠ 0
  alignCount : s.ltc.alignCount ≠ 0
  replayInterval : s.ltx.replayInterval ≠ 0
  shortLimit : 1 ≤ s.ltx.shortLimit.toNat ∧ s.ltx.shortLimit.toNat ≤ 4
  ackCount : 1 ≤ s.lrx.ackCount.toNat ∧ s.lrx.ackCount.toNat ≤ 16
  ackDelay : s.lrx.ackDelay ≠ 0
  lineLossThreshold : s.lrx.lineLossThreshold ≠ 0
  shortRetry : s.ltx.shortRetry ≤ 4
  longRetry : s.ltx.longRetry ≤ 7
  coalescing : s.lrx.coalescing ≤ 16
  lineLossRun : s.lrx.lineLossRun ≤ 15

theorem State.inRange_iff : s.InRange ↔ s.controlsInRange :=
  ⟨fun ⟨h₁, h₂, h₃, h₄, h₅, h₆, h₇, h₈, h₉, h₁₀, h₁₁, h₁₂, h₁₃, h₁₄⟩ =>
    ⟨h₁, h₂, h₃, h₄, h₅, h₆, h₇, h₈, h₉, h₁₀, h₁₁, h₁₂, h₁₃, h₁₄⟩,
    fun ⟨h₁, h₂, h₃, h₄, h₅, h₆, h₇, h₈, h₉, h₁₀, h₁₁, h₁₂, h₁₃, h₁₄⟩ =>
      ⟨h₁, h₂, h₃, h₄, h₅, h₆, h₇, h₈, h₉, h₁₀, h₁₁, h₁₂, h₁₃, h₁₄⟩⟩

theorem Hrt.free_discardInterval (e : Fin 16) (u : Hrt) : (u.free e).discardInterval = u.discardInterval := by
  unfold Hrt.free
  split <;> rfl

/-- A return to ACTIVE zeroes the short retry count and keeps the long one and the controls (R117). -/
theorem Ltx.returnToActive_counts (x : Ltx) :
    x.returnToActive.shortRetry = 0 ∧ x.returnToActive.longRetry = x.longRetry ∧
      x.returnToActive.replayInterval = x.replayInterval ∧ x.returnToActive.shortLimit = x.shortLimit := by
  unfold Ltx.returnToActive
  split <;> exact ⟨rfl, rfl, rfl, rfl⟩

/-- Teardown keeps the controls and puts the counts at 0. -/
theorem State.InRange.of_teardown (h : s.InRange) (hhrt : t.hrt = s.hrt.teardown) (hisu : t.isu = s.isu.teardown)
    (hreg : t.reg = s.reg) (hseek : t.ltc.seekWindow = s.ltc.seekWindow) (halign : t.ltc.alignCount = s.ltc.alignCount)
    (hltx : t.ltx = s.ltx.teardown) (hlrx : t.lrx = s.lrx.teardown) : t.InRange where
  discardInterval := by rw [hhrt]; exact h.discardInterval
  completionTimeout := by rw [hisu]; exact h.completionTimeout
  tbdiv := by rw [hreg]; exact h.tbdiv
  seekWindow := by rw [hseek]; exact h.seekWindow
  alignCount := by rw [halign]; exact h.alignCount
  replayInterval := by rw [hltx]; exact h.replayInterval
  shortLimit := by rw [hltx]; exact h.shortLimit
  ackCount := by rw [hlrx]; exact h.ackCount
  ackDelay := by rw [hlrx]; exact h.ackDelay
  lineLossThreshold := by rw [hlrx]; exact h.lineLossThreshold
  shortRetry := by rw [hltx]; exact Nat.zero_le _
  longRetry := by rw [hltx]; exact Nat.zero_le _
  coalescing := by rw [hlrx]; exact Nat.zero_le _
  lineLossRun := by rw [hlrx]; exact Nat.zero_le _

theorem Move.keeps_inRange (m : Move c s t) (h : s.InRange) : t.InRange := by
  cases m with
  | general _ _ _ kept => exact { h with tbdiv := kept h.tbdiv }
  | heldControls _ _ kept => exact { h with discardInterval := kept h.discardInterval }
  | timeoutWritten _ hv => exact { h with completionTimeout := hv }
  | trainingControls _ _ _ _ _ hwindow hcount =>
    exact { h with seekWindow := hwindow h.seekWindow, alignCount := hcount h.alignCount }
  | retryControls _ _ _ hinterval hshort => exact { h with replayInterval := hinterval, shortLimit := hshort }
  | ackControls _ _ _ hcount hdelay hthreshold =>
    exact { h with ackCount := hcount, ackDelay := hdelay, lineLossThreshold := hthreshold }
  | functionReset =>
    exact { h with
      shortRetry := Nat.zero_le _, longRetry := Nat.zero_le _, coalescing := Nat.zero_le _
      lineLossRun := Nat.zero_le _ }
  | disabled | failed | sessionEnded =>
    exact h.of_teardown (by simp) (by simp) (by simp) (by simp; rfl) (by simp; rfl) (by simp) (by simp)
  | sessionStarted =>
    exact { h with shortRetry := Nat.zero_le _, coalescing := Nat.zero_le _, lineLossRun := Nat.zero_le _ }
  | sessionResumed =>
    obtain ⟨hshort, hlong, hinterval, hlimit⟩ := s.ltx.returnToActive_counts
    exact { h with
      replayInterval := by rw [State.resumeSession_ltx, hinterval]; exact h.replayInterval
      shortLimit := by rw [State.resumeSession_ltx, hlimit]; exact h.shortLimit
      shortRetry := by rw [State.resumeSession_ltx, hshort]; exact Nat.zero_le _
      longRetry := by rw [State.resumeSession_ltx, hlong]; exact h.longRetry
      coalescing := Nat.zero_le _
      lineLossRun := Nat.zero_le _ }
  | goodFrame => exact { h with lineLossRun := Nat.zero_le _ }
  | lossCounted hl =>
    have := s.lrx.lineLossThreshold.isLt
    exact { h with lineLossRun := by simp only; omega }
  | delivered => exact { h with coalescing := Nat.min_le_left _ _ }
  | progressed => exact { h with shortRetry := Nat.zero_le _, longRetry := Nat.zero_le _ }
  | passStarted _ hs => exact { h with shortRetry := Nat.le_trans hs h.shortLimit.2 }
  | longRetried hl => exact { h with longRetry := Nat.le_trans hl (Nat.le_of_lt_succ s.ltx.longLimit.isLt) }
  | akSent => exact { h with coalescing := Nat.zero_le _ }
  | collected e | discarded e =>
    have kept : (s.hrt.free e).discardInterval ≠ 0 := by
      rw [Hrt.free_discardInterval]
      exact h.discardInterval
    exact { h with discardInterval := kept }
  | _ => exact { h with }

theorem Passes.keeps_inRange (p : Passes s t) (h : s.InRange) : t.InRange := by
  cases p <;> exact { h with }

end Sys2Proof.Machine
end

section
/-! SUPPORT. The training state and RESET_N, kept by every change, with the obligation that steps keep the controls, the
training state and the chip reset (O59). -/

namespace Sys2Proof.Machine

variable {c : Instr} {s t : State}

/-! ### The training state -/

/-- What holds of the link controller in each link state, by name. -/
structure Ltc.Training (c : Ltc) : Prop where
  window : c.seekTimer ≠ none ↔ c.link.training
  alignTimer : c.alignTimer ≠ none → c.link = .align
  alRun : c.alRun ≠ none → c.link = .align ∨ c.link = .exchange
  attempts : c.attempts ≤ 15
  skRun : c.skRun ≤ 3
  seekRun : c.link = .seek → c.skRun ≤ 2
  ourSession : c.ourSession = 0 → c.link = .off

theorem Ltc.training_iff {c : Ltc} : c.Training ↔ c.trainingKept :=
  ⟨fun ⟨h₁, h₂, h₃, h₄, h₅, h₆, h₇⟩ => ⟨h₁, h₂, h₃, h₄, h₅, h₆, h₇⟩,
    fun ⟨h₁, h₂, h₃, h₄, h₅, h₆, h₇⟩ => ⟨h₁, h₂, h₃, h₄, h₅, h₆, h₇⟩⟩

/-- Only OFF comes before the first fresh start. -/
theorem Ltc.Training.session_ne_zero {c : Ltc} (h : c.Training) (hlink : c.link ≠ .off) : c.ourSession ≠ 0 :=
  fun hz => hlink (h.ourSession hz)

theorem nextSession_ne_zero : ∀ n : BitVec 4, nextSession n ≠ 0 := by decide

/-- A controller with the seek window running in SEEK, its runs and its timers as a training start leaves them. -/
theorem Ltc.Training.of_seek {c : Ltc} (hlink : c.link = .seek) (hseek : c.seekTimer ≠ none) (halign : c.alignTimer = none)
    (hal : c.alRun = none) (hattempts : c.attempts ≤ 15) (hsk : c.skRun = 0) (hours : c.ourSession ≠ 0) :
    c.Training where
  window := ⟨fun _ => .inl hlink, fun _ => hseek⟩
  alignTimer := fun running => absurd halign running
  alRun := fun taken => absurd hal taken
  attempts := hattempts
  skRun := hsk ▸ Nat.zero_le _
  seekRun := fun _ => hsk ▸ Nat.zero_le _
  ourSession := fun hz => absurd hz hours

/-- A controller outside training, with its runs and timers as a teardown or an entry to ACTIVE leaves them. -/
theorem Ltc.Training.of_stopped {c : Ltc} {l : LinkState} (hlink : c.link = l) (hseek : c.seekTimer = none)
    (halign : c.alignTimer = none) (hal : c.alRun = none) (hattempts : c.attempts = 0) (hsk : c.skRun = 0)
    (hours : c.ourSession = 0 → c.link = .off) (hl : ¬ l.training := by decide) : c.Training where
  window := ⟨fun running => absurd hseek running, fun training => absurd (hlink ▸ training) hl⟩
  alignTimer := fun running => absurd halign running
  alRun := fun taken => absurd hal taken
  attempts := hattempts ▸ Nat.zero_le _
  skRun := hsk ▸ Nat.zero_le _
  seekRun := fun _ => hsk ▸ Nat.zero_le _
  ourSession := hours

theorem Ltc.Training.align_stopped {c : Ltc} (h : c.Training) (hlink : c.link ≠ .align) : c.alignTimer = none := by
  refine Classical.byContradiction fun running => ?_
  exact hlink (h.alignTimer running)

theorem Move.keeps_training (m : Move c s t) (h : s.ltc.Training) : t.ltc.Training := by
  cases m with
  | functionReset => exact .of_stopped (l := .off) rfl rfl rfl rfl rfl rfl fun _ => rfl
  | freshStart => exact .of_seek rfl (Option.some_ne_none _) rfl rfl (Nat.zero_le _) rfl (nextSession_ne_zero _)
  | retrained _ hl =>
    exact .of_seek rfl (Option.some_ne_none _) rfl rfl (Nat.zero_le _) rfl
      (h.session_ne_zero (by rw [hl]; decide))
  | sessionEnded =>
    rw [State.freshStart_ltc, State.teardown_ltc]
    exact .of_seek rfl (Option.some_ne_none _) rfl rfl (Nat.zero_le _) rfl (nextSession_ne_zero _)
  | disabled =>
    rw [State.disable_ltc]
    exact .of_stopped (l := .off) rfl rfl rfl rfl rfl rfl fun _ => rfl
  | failed _ hl =>
    have up : s.ltc.link ≠ .off := by rcases hl with hl | hl <;> (rw [hl]; decide)
    rw [State.enterFailed_ltc]
    exact .of_stopped (l := .failed) rfl rfl rfl rfl rfl rfl fun hz => absurd hz (h.session_ne_zero up)
  | attemptCounted running =>
    have up : s.ltc.link ≠ .off := by
      rcases h.window.mp running with hl | hl | hl <;> (rw [hl]; decide)
    exact .of_seek rfl (Option.some_ne_none _) rfl rfl (Nat.min_le_left _ _) rfl (h.session_ne_zero up)
  | fellBack hl =>
    exact .of_seek rfl (Option.some_ne_none _) (h.align_stopped (by rw [hl]; decide)) rfl (Nat.zero_le _) rfl
      (h.session_ne_zero (by rw [hl]; decide))
  | skCounted _ hrun => exact { h with skRun := Nat.le_succ_of_le hrun, seekRun := fun _ => hrun }
  | aligned run hrun hl =>
    have hsk := h.seekRun hl
    exact {
      window := ⟨fun _ => .inr (.inl rfl), fun _ => h.window.mpr (.inl hl)⟩
      alignTimer := fun _ => rfl
      alRun := fun _ => .inl rfl
      attempts := h.attempts
      skRun := by simp only [State.enterAlign_ltc]; omega
      seekRun := fun hs => nomatch hs
      ourSession := fun hz => absurd hz (h.session_ne_zero (by rw [hl]; decide)) }
  | alTaken _ hl => exact { h with alRun := fun _ => .inl hl }
  | exchanged hl =>
    exact {
      window := ⟨fun _ => .inr (.inr rfl), fun _ => h.window.mpr (.inr (.inl hl))⟩
      alignTimer := fun running => absurd rfl running
      alRun := fun _ => .inr rfl
      attempts := h.attempts
      skRun := h.skRun
      seekRun := fun hs => nomatch hs
      ourSession := fun hz => absurd hz (h.session_ne_zero (by rw [hl]; decide)) }
  | sessionStarted _ _ _ _ _ _ hl | sessionResumed hl =>
    exact .of_stopped (l := .active) rfl rfl (h.align_stopped (by rw [hl]; decide)) rfl rfl rfl
      fun hz => absurd hz (h.session_ne_zero (by rw [hl]; decide))
  | trainingControls | commandStatus => exact { h with }
  | _ => exact h

/-- A tick stops no timer: one that has run out stays until its expiry is taken. -/
theorem tickTimer_ne_none {x : Option Nat} : tickTimer x ≠ none ↔ x ≠ none := by
  cases x <;> simp [tickTimer]

theorem Passes.keeps_training (p : Passes s t) (h : s.ltc.Training) : t.ltc.Training := by
  cases p with
  | ticked =>
    exact { h with
      window := tickTimer_ne_none.trans h.window
      alignTimer := fun running => h.alignTimer (tickTimer_ne_none.mp running) }
  | _ => exact { h with }

/-! ### RESET_N -/

theorem State.heldWhileLow_of_high (h : s.resetN = true) : s.heldWhileLow := fun low => by
  rw [h] at low
  cases low

/-- While RESET_N is low a step changes nothing but what stands outside the part. -/
theorem step_keeps_heldWhileLow (s t : State) (h : s.heldWhileLow) (hstep : step s = .next t) : t.heldWhileLow := by
  cases hp : s.pending with
  | nil =>
    rw [step_of_empty hp] at hstep
    injection hstep with hstep
    have passes := s.idle_passes
    rw [hstep] at passes
    cases passes with
    | waited line low =>
      intro _
      rw [h low]
    | clocked _ _ high | ticked _ _ _ _ high | taken _ _ high => exact State.heldWhileLow_of_high high
  | cons c rest =>
    rw [step_of_pending hp] at hstep
    obtain ⟨u, hu, ran⟩ := exec_ran c { s with pending := rest }
    rw [hu] at hstep
    injection hstep with hstep
    subst hstep
    clear hu
    cases ran with
    | held => exact fun _ => rfl
    | released => exact State.heldWhileLow_of_high rfl
    | refused low =>
      intro _
      rw [h low]
      rfl
    | ignored low =>
      intro _
      rw [h low]
    | moved high m => exact State.heldWhileLow_of_high (m.frame.2.2.2.trans high)

/-- Settles O59: three invariants, each kept by every change. -/
theorem stepKeepsControlsTrainingAndChipReset : Obligations.StepKeepsControlsTrainingAndChipReset := by
  refine ⟨?controls, ?training, step_keeps_heldWhileLow⟩
  case controls =>
    simp only [← State.inRange_iff]
    exact step_keeps (ok := fun _ => True) (fun _ h => ⟨trivial, { h with }⟩)
      (fun _ => { State.inRange_iff.mpr State.reset_controlsInRange with }) (fun h => { h with })
      (fun _ m => m.keeps_inRange) Passes.keeps_inRange
  case training =>
    simp only [← Ltc.training_iff]
    exact step_keeps (P := fun s => s.ltc.Training) (ok := fun _ => True) (fun _ h => ⟨trivial, h⟩)
      (fun _ => Ltc.training_iff.mpr State.reset_trainingKept) id (fun _ m => m.keeps_training) Passes.keeps_training

end Sys2Proof.Machine
end

section
/-! SUPPORT. What the changes do to the held request table: the phases of its entries move on, or one entry comes or goes.
With the obligation that steps keep the table consistent (O54). -/

namespace Sys2Proof.Machine

variable {c : Instr} {s t : State} {t₀ t₁ : Hrt}

/-! ### Changes of phase -/

/-- Every entry of the second table is the entry of the first one in another phase. -/
def Hrt.Rephased (t u : Hrt) : Prop :=
  ∀ i : Fin 16, ∃ f : Held → Phase, u.entries[i] = t.entries[i].map fun h => { h with phase := f h }

/-- The function changes nothing of an entry but its phase. -/
def ChangesPhase (f : Held → Held) : Prop := ∀ h, f h = { h with phase := (f h).phase }

theorem changesPhase_afterTeardown (n : Nat) : ChangesPhase (Held.afterTeardown n) := fun h => by
  unfold Held.afterTeardown
  split <;> rfl

theorem changesPhase_afterDeparture : ChangesPhase Held.afterDeparture := fun h => by
  unfold Held.afterDeparture
  split <;> rfl

theorem changesPhase_tick : ChangesPhase Held.tick := fun h => by
  unfold Held.tick
  split <;> rfl

theorem changesPhase_completed (status : CpStatus) (data : List Byte) (n : Nat) :
    ChangesPhase fun h => h.completed status data n := fun h => by
  simp only [Held.completed]
  split <;> rfl

theorem Hrt.Rephased.of_map {f : Held → Held} (hf : ChangesPhase f)
    (hu : ∀ i : Fin 16, t₁.entries[i] = t₀.entries[i].map f) : t₀.Rephased t₁ := fun i =>
  ⟨fun h => (f h).phase, by rw [hu i, funext hf]⟩

theorem Hrt.Rephased.of_eq (hu : t₁.entries = t₀.entries) : t₀.Rephased t₁ :=
  .of_map (f := id) (fun _ => rfl) fun i => by rw [hu, Option.map_id_fun, id]

theorem Hrt.Rephased.setHeld {f : Held → Held} (hf : ChangesPhase f) (e : Fin 16) : t₀.Rephased (t₀.setHeld e f) :=
  fun i => by
    rw [Hrt.setHeld_entries]
    by_cases hi : i = e
    · exact ⟨fun h => (f h).phase, by rw [if_pos hi, funext hf]⟩
    · exact ⟨Held.phase, by rw [if_neg hi]; exact (congrFun Option.map_id_fun _).symm⟩

/-- An entry in a new phase comes from the entry with that number. -/
theorem Hrt.Rephased.origin (hp : t₀.Rephased t₁) {i : Fin 16} {h : Held} (hh : h ∈ t₁.entries[i]) :
    ∃ g ∈ t₀.entries[i], h = { g with phase := h.phase } := by
  obtain ⟨f, hf⟩ := hp i
  obtain ⟨g, hg, rfl⟩ := mem_entries_of_map hf hh
  exact ⟨g, hg, rfl⟩

theorem Hrt.Rephased.entriesOf (hp : t₀.Rephased t₁) (r : Fin 8) : t₁.entriesOf r = t₀.entriesOf r := by
  unfold Hrt.entriesOf
  refine List.filter_congr fun i _ => ?_
  obtain ⟨f, hf⟩ := hp i
  rw [hf, Option.any_map]

/-! ### The number of a requester's entries -/

/-- A test that one more member passes counts one more. -/
theorem length_filter_finRange_add_one {n : Nat} {p q : Fin n → Bool} {e : Fin n} (hp : p e = true)
    (hq : ∀ i, q i = (p i && i != e)) :
    ((List.finRange n).filter p).length = ((List.finRange n).filter q).length + 1 := by
  have without : (List.finRange n).filter q = ((List.finRange n).filter p).erase e := by
    rw [List.Nodup.erase_eq_filter (List.Pairwise.filter p (List.nodup_finRange n)), List.filter_filter]
    exact List.filter_congr fun i _ => (hq i).trans (Bool.and_comm _ _)
  have member : e ∈ (List.finRange n).filter p := List.mem_filter.mpr ⟨List.mem_finRange e, hp⟩
  rw [without, List.length_erase_of_mem member, Nat.sub_add_cancel (List.length_pos_of_mem member)]

theorem Held.moveUp_requester (gone h : Held) : (gone.moveUp h).requester = h.requester := by
  unfold Held.moveUp
  split <;> rfl

theorem Hrt.length_entriesOf_free {e : Fin 16} {gone : Held} (he : t₀.entries[e] = some gone) (r : Fin 8) :
    (t₀.entriesOf r).length = ((t₀.free e).entriesOf r).length + if r = gone.requester then 1 else 0 := by
  have left : ∀ i : Fin 16, ((t₀.free e).entries[i].any fun h => h.requester == r) =
      ((t₀.entries[i].any fun h => h.requester == r) && i != e) := by
    intro i
    rw [Hrt.free_entries he]
    by_cases hi : i = e
    · rw [if_pos hi, hi]
      simp
    · rw [if_neg hi, Option.any_map, bne_iff_ne.mpr hi, Bool.and_true]
      simp only [Held.moveUp_requester]
  by_cases hr : r = gone.requester
  · rw [if_pos hr]
    exact length_filter_finRange_add_one (e := e) (by simp [he, hr]) left
  · rw [if_neg hr, Nat.add_zero]
    refine congrArg List.length (List.filter_congr fun i _ => ?_)
    rw [left]
    by_cases hi : i = e
    · simp [hi, he, Ne.symm hr]
    · rw [bne_iff_ne.mpr hi, Bool.and_true]

theorem Hrt.length_entriesOf_create {e : Fin 16} (he : t₀.entries[e] = none) (x : Transfer) (hit : Hit) (n : Nat)
    (r : Fin 8) :
    ((t₀.create e x hit n).entriesOf r).length = (t₀.entriesOf r).length + if r = x.requester then 1 else 0 := by
  have new : ∀ i : Fin 16, ((t₀.create e x hit n).entries[i].any fun h => h.requester == r) =
      if i = e then x.requester == r else t₀.entries[i].any fun h => h.requester == r := by
    intro i
    rw [Hrt.create_entries]
    split <;> rfl
  by_cases hr : r = x.requester
  · rw [if_pos hr]
    refine length_filter_finRange_add_one (e := e) (by rw [new]; simp [hr]) fun i => ?_
    rw [new]
    by_cases hi : i = e
    · simp [hi, he]
    · rw [if_neg hi, bne_iff_ne.mpr hi, Bool.and_true]
  · rw [if_neg hr, Nat.add_zero]
    refine congrArg List.length (List.filter_congr fun i _ => ?_)
    rw [new]
    by_cases hi : i = e
    · simp [hi, he, Ne.symm hr]
    · rw [if_neg hi]

theorem Hrt.free_requesters {e : Fin 16} {gone : Held} (he : t₀.entries[e] = some gone) (r : Fin 8) :
    (t₀.free e).requesters[r] =
      if r = gone.requester then { t₀.requesters[r] with heldCount := t₀.requesters[r].heldCount - 1 }
      else t₀.requesters[r] := by
  simp only [Hrt.free, he, getElem_set_fin]
  split
  · next hr => rw [hr]
  · rfl

theorem Hrt.setRequester_requesters (q r : Fin 8) (f : Requester → Requester) (t : Hrt) :
    (t.setRequester q f).requesters[r] = if r = q then f t.requesters[r] else t.requesters[r] := by
  simp only [Hrt.setRequester, getElem_set_fin]
  split
  · next hr => rw [hr]
  · rfl

theorem Hrt.create_requesters (e : Fin 16) (x : Transfer) (hit : Hit) (n : Nat) (r : Fin 8) (t : Hrt) :
    (t.create e x hit n).requesters[r] =
      if r = x.requester then { t.requesters[r] with heldCount := t.requesters[r].heldCount + 1 }
      else t.requesters[r] := by
  simp only [Hrt.create, getElem_set_fin]
  split
  · next hr => rw [hr]
  · rfl

/-! ### The order of a requester's entries -/

theorem Held.moveUp_order (gone h : Held) :
    (gone.moveUp h).order =
      if h.requester = gone.requester ∧ gone.order < h.order then h.order - 1 else h.order := by
  unfold Held.moveUp
  split <;> rfl

/-- Moving up keeps the order of two entries of one requester, because neither has the order of the entry that is gone. -/
theorem Held.moveUp_order_le_iff {gone g h : Held} (hr : g.requester = h.requester)
    (hg : g.requester = gone.requester → g.order ≠ gone.order)
    (hh : h.requester = gone.requester → h.order ≠ gone.order) :
    (gone.moveUp g).order ≤ (gone.moveUp h).order ↔ g.order ≤ h.order := by
  rw [Held.moveUp_order, Held.moveUp_order, hr]
  by_cases hrg : h.requester = gone.requester
  · have hg := hg (hr.trans hrg)
    have hh := hh hrg
    simp only [hrg, true_and]
    split <;> split <;> omega
  · simp only [hrg, false_and, if_false]

/-- Distinct creation orders: an entry other than `e` does not have the order of entry `e`, if the requester is the
same. -/
theorem Hrt.ordersRank.order_ne {t : Hrt} (hrank : t.ordersRank) {e i : Fin 16} {gone g : Held}
    (he : t.entries[e] = some gone) (hg : g ∈ t.entries[i]) (hi : i ≠ e) (hr : g.requester = gone.requester) :
    g.order ≠ gone.order := fun ho => hi (hrank.1 i e g hg gone he hr ho)

theorem Hrt.ordersRank.of_rephased (hp : t₀.Rephased t₁)
    (hcount : ∀ r : Fin 8, t₁.requesters[r].heldCount = t₀.requesters[r].heldCount) (hrank : t₀.ordersRank) :
    t₁.ordersRank := by
  obtain ⟨distinct, range, counted⟩ := hrank
  refine ⟨fun e f h hh g hg hr ho => ?_, fun e h hh => ?_, fun r => ?_⟩
  · obtain ⟨h', hh', hh⟩ := hp.origin hh
    obtain ⟨g', hg', hg⟩ := hp.origin hg
    rw [hh, hg] at hr ho
    exact distinct e f h' hh' g' hg' hr ho
  · obtain ⟨h', hh', hh⟩ := hp.origin hh
    rw [hh, hcount]
    exact range e h' hh'
  · rw [hcount, hp.entriesOf]
    exact counted r

theorem Hrt.ordersRank.free {e : Fin 16} {gone : Held} (he : t₀.entries[e] = some gone) (hrank : t₀.ordersRank) :
    (t₀.free e).ordersRank := by
  obtain ⟨distinct, range, counted⟩ := id hrank
  refine ⟨fun i j h hh g hg hr ho => ?_, fun i h hh => ?_, fun r => ?_⟩
  · obtain ⟨hi, k, hk, rfl⟩ := Hrt.mem_free he hh
    obtain ⟨hj, l, hl, rfl⟩ := Hrt.mem_free he hg
    rw [Held.moveUp_requester, Held.moveUp_requester] at hr
    have hne := fun hr => hrank.order_ne he hk hi hr
    have gne := fun hr => hrank.order_ne he hl hj hr
    refine distinct i j k hk l hl hr (Nat.le_antisymm ?_ ?_)
    · exact (Held.moveUp_order_le_iff hr hne gne).mp (Nat.le_of_eq ho)
    · exact (Held.moveUp_order_le_iff hr.symm gne hne).mp (Nat.le_of_eq ho.symm)
  · obtain ⟨hi, k, hk, rfl⟩ := Hrt.mem_free he hh
    have hne := fun hr => hrank.order_ne he hk hi hr
    have hrange := range i k hk
    have gone_range := range e gone he
    simp only [Held.moveUp_requester, Held.moveUp_order, Hrt.free_requesters he]
    by_cases hr : k.requester = gone.requester
    · have hne := hne hr
      simp only [hr] at hrange
      simp only [hr, true_and, if_true]
      split <;> omega
    · simpa only [hr, false_and, if_false] using hrange
  · have hlength := Hrt.length_entriesOf_free he r
    have hcount := counted r
    rw [Hrt.free_requesters he]
    split
    · next hr => rw [if_pos hr] at hlength; simp only; omega
    · next hr => rw [if_neg hr] at hlength; omega

theorem Hrt.ordersRank.create {e : Fin 16} (he : t₀.entries[e] = none) (x : Transfer) (hit : Hit) (n : Nat)
    (hrank : t₀.ordersRank) : (t₀.create e x hit n).ordersRank := by
  obtain ⟨distinct, range, counted⟩ := id hrank
  have younger : ∀ i : Fin 16, ∀ h ∈ t₀.entries[i], h.requester = x.requester →
      h.order ≠ t₀.requesters[x.requester].heldCount + 1 := by
    intro i h hh hr ho
    have := (range i h hh).2
    simp only [hr] at this
    omega
  refine ⟨fun i j h hh g hg hr ho => ?_, fun i h hh => ?_, fun r => ?_⟩
  · rw [Hrt.create_entries] at hh hg
    split at hh <;> split at hg
    · next hi hj => rw [hi, hj]
    · cases hh
      exact absurd ho.symm (younger j g hg hr.symm)
    · cases hg
      exact absurd ho (younger i h hh hr)
    · exact distinct i j h hh g hg hr ho
  · rw [Hrt.create_entries] at hh
    rw [Hrt.create_requesters]
    split at hh
    · cases hh
      exact ⟨Nat.le_add_left _ _, by simp [Transfer.newEntry]⟩
    · have := range i h hh
      split
      · exact ⟨this.1, Nat.le_succ_of_le this.2⟩
      · exact this
  · have hlength := Hrt.length_entriesOf_create he x hit n r
    have hcount := counted r
    rw [Hrt.create_requesters]
    split
    · next hr => rw [if_pos hr] at hlength; simp only; omega
    · next hr => rw [if_neg hr] at hlength; omega

/-! ### The changes of the table -/

theorem Hrt.free_discardCount (e : Fin 16) (t : Hrt) : (t.free e).discardCount = t.discardCount := by
  unfold Hrt.free
  split <;> rfl

/-- What a change does to the table. -/
inductive Hrt.Change (t : Hrt) : Hrt → Prop where
  | rephased {u : Hrt} (hp : t.Rephased u) (hr : u.requesters = t.requesters) (hd : u.discardCount = t.discardCount) :
      Change t u
  | written (r : Fin 8) (level : Level) (limit : BitVec 3) (clear : Bool) :
      Change t (t.setRequester r (Requester.write level limit clear))
  | functionReset : Change t t.functionReset
  | freed (e : Fin 16) (gone : Held) (he : t.entries[e] = some gone) (f : Requester → Requester) (n : Nat)
      (hlimit : ∀ q, (f q).heldLimit = q.heldLimit) (hcount : ∀ q, (f q).heldCount = q.heldCount)
      (hrun : ∀ q, (f q).discardRun ≤ 15) (hn : t.discardCount ≤ 65535 → n ≤ 65535) :
      Change t { (t.free e).setRequester gone.requester f with discardCount := n }
  | created (e : Fin 16) (x : Transfer) (hit : Hit) (n : Nat) (hsize : sizeRule x.offset x.size = true)
      (hkey : ∀ f : Fin 16, ∀ h ∈ t.entries[f], h.key ≠ x.key) (hlimit : t.requesters[x.requester].atLimit = false)
      (hfree : t.entries[e] = none) : Change t (t.create e x hit n)

theorem Hrt.Change.same : t₀.Change t₀ := .rephased (.of_eq rfl) rfl rfl

theorem Hrt.Change.teardown : t₀.Change t₀.teardown :=
  .rephased (.of_map (changesPhase_afterTeardown _) t₀.teardown_entries) rfl rfl

theorem Hrt.Change.setHeld {f : Held → Held} (hf : ChangesPhase f) (e : Fin 16) : t₀.Change (t₀.setHeld e f) :=
  .rephased (.setHeld hf e) rfl rfl

theorem Move.table (m : Move c s t) : s.hrt.Change t.hrt := by
  cases m with
  | heldControls => exact .rephased (.of_eq rfl) rfl rfl
  | requesterWritten => exact .written _ _ _ _
  | functionReset => exact .functionReset
  | disabled => rw [State.disable_hrt]; exact .teardown
  | failed => rw [State.enterFailed_hrt]; exact .teardown
  | sessionEnded => rw [State.freshStart_hrt, State.teardown_hrt]; exact .teardown
  | created x hit e hsize hkey _ hlimit hfree => exact .created e x hit _ hsize hkey hlimit hfree
  | collected e h he =>
    exact .freed e h he (fun q => { q with discardRun := 0 }) _ (fun _ => rfl) (fun _ => rfl) (fun _ => Nat.zero_le _)
      fun hd => by rwa [Hrt.free_discardCount]
  | discarded e h he =>
    exact .freed e h he (Requester.afterDiscard _) _ (fun _ => rfl) (fun _ => rfl) (fun _ => Nat.min_le_left _ _)
      fun _ => Nat.min_le_left _ _
  | quarantined e => exact .setHeld (fun _ => rfl) e
  | completed e _ _ status data => exact .setHeld (changesPhase_completed status data _) e
  | departed =>
    rw [State.sendNew_hrt]
    exact .rephased (.of_map changesPhase_afterDeparture (Hrt.departure_entries _)) rfl rfl
  | issued _ tag e => exact .setHeld (fun _ => rfl) e
  | _ => exact .same

theorem Passes.table (p : Passes s t) : s.hrt.Change t.hrt := by
  cases p with
  | ticked => exact .rephased (.of_map changesPhase_tick (Hrt.tick_entries _)) rfl rfl
  | _ => exact .same

/-! ### The invariants of the table -/

theorem Hrt.Change.keeps_ordersRank (m : t₀.Change t₁) (h : t₀.ordersRank) : t₁.ordersRank := by
  cases m with
  | rephased hp hr => exact h.of_rephased hp fun r => by rw [hr]
  | written r level limit clear =>
    refine .of_rephased (t₀ := t₀) (.of_eq rfl) (fun q => ?_) h
    rw [Hrt.setRequester_requesters]
    split <;> rfl
  | functionReset =>
    refine ⟨fun e f h hh => ?_, fun e h hh => ?_, fun r => ?_⟩
    · simp [Hrt.functionReset] at hh
    · simp [Hrt.functionReset] at hh
    · have none : t₀.functionReset.entriesOf r = [] :=
        List.filter_eq_nil_iff.mpr fun e _ => by simp [Hrt.functionReset]
      rw [none]
      simp [Hrt.functionReset, Requester.functionReset]
  | freed e gone he f n hlimit hcount =>
    refine .of_rephased (t₀ := t₀.free e) (.of_eq rfl) (fun q => ?_) (h.free he)
    refine (congrArg Requester.heldCount (Hrt.setRequester_requesters _ q f _)).trans ?_
    split
    · exact hcount _
    · rfl
  | created e x hit n _ _ _ hfree => exact h.create hfree x hit n

/-- What holds of every entry by its number and key is kept by a table whose entries have their keys from it. -/
theorem Hrt.keysDistinct.of_origin (ho : ∀ i : Fin 16, ∀ h ∈ t₁.entries[i], ∃ g ∈ t₀.entries[i], g.key = h.key)
    (hd : t₀.keysDistinct) : t₁.keysDistinct := by
  intro e f h hh g hg hk
  obtain ⟨h', hh', hkey⟩ := ho e h hh
  obtain ⟨g', hg', gkey⟩ := ho f g hg
  exact hd e f h' hh' g' hg' (hkey.trans (hk.trans gkey.symm))

theorem Held.moveUp_key (gone h : Held) : (gone.moveUp h).key = h.key := by
  unfold Held.moveUp
  split <;> rfl

/-- Unless one is created, every entry has the key of the entry with its number before the change. -/
theorem Hrt.Change.origin (m : t₀.Change t₁) :
    (∀ i : Fin 16, ∀ h ∈ t₁.entries[i], ∃ g ∈ t₀.entries[i], g.key = h.key) ∨
      ∃ e x hit n, t₁ = t₀.create e x hit n ∧ sizeRule x.offset x.size = true ∧
        ∀ f : Fin 16, ∀ h ∈ t₀.entries[f], h.key ≠ x.key := by
  cases m with
  | rephased hp =>
    refine .inl fun i h hh => ?_
    obtain ⟨g, hg, heq⟩ := hp.origin hh
    exact ⟨g, hg, by rw [heq]; rfl⟩
  | written => exact .inl fun i h hh => ⟨h, hh, rfl⟩
  | functionReset => exact .inl fun i h hh => by simp [Hrt.functionReset] at hh
  | freed e gone he f n =>
    refine .inl fun i h hh => ?_
    obtain ⟨-, g, hg, rfl⟩ := Hrt.mem_free he (show h ∈ (t₀.free e).entries[i] from hh)
    exact ⟨g, hg, (Held.moveUp_key gone g).symm⟩
  | created e x hit n hsize hkey => exact .inr ⟨e, x, hit, n, rfl, hsize, hkey⟩

theorem Transfer.newEntry_key (x : Transfer) (hit : Hit) (order n : Nat) : (x.newEntry hit order n).key = x.key := by
  cases hd : x.direction <;> simp [Transfer.newEntry, Held.key, Transfer.key, Transfer.heldKind, HeldKind.direction, hd]

theorem Hrt.Change.keeps_keysDistinct (m : t₀.Change t₁) (h : t₀.keysDistinct) : t₁.keysDistinct := by
  rcases m.origin with ho | ⟨e, x, hit, n, rfl, -, hkey⟩
  · exact h.of_origin ho
  · intro i j g hg k hk heq
    rw [Hrt.create_entries] at hg hk
    split at hg <;> split at hk
    · next hi hj => rw [hi, hj]
    · cases hg
      exact absurd (heq.symm.trans (x.newEntry_key hit _ n)) (hkey j k hk)
    · cases hk
      exact absurd (heq.trans (x.newEntry_key hit _ n)) (hkey i g hg)
    · exact h i j g hg k hk heq

theorem Hrt.Change.keeps_sizesRuled (m : t₀.Change t₁) (h : t₀.sizesRuled) : t₁.sizesRuled := by
  rcases m.origin with ho | ⟨e, x, hit, n, rfl, hsize, -⟩
  · intro i k hk
    obtain ⟨g, hg, hkey⟩ := ho i k hk
    have := h i g hg
    rwa [show g.offset = k.offset from congrArg Key.offset hkey, show g.size = k.size from congrArg Key.size hkey]
      at this
  · intro i k hk
    rw [Hrt.create_entries] at hk
    split at hk
    · cases hk
      exact hsize
    · exact h i k hk

/-- The limits of one requester record (R15, R23, R25). -/
def Requester.withinLimits (q : Requester) : Prop :=
  1 ≤ q.heldLimit.toNat ∧ q.heldLimit.toNat ≤ 4 ∧ q.heldCount ≤ 4 ∧ q.discardRun ≤ 15

theorem Requester.withinLimits.write {q : Requester} (h : q.withinLimits) (level : Level) (limit : BitVec 3)
    (clear : Bool) : (q.write level limit clear).withinLimits := by
  obtain ⟨-, -, hcount, hrun⟩ := h
  refine ⟨(oneToFour_range limit).1, (oneToFour_range limit).2, hcount, ?_⟩
  simp only [Requester.write]
  split
  · exact Nat.zero_le _
  · exact hrun

theorem Hrt.Change.keeps_withinLimits (m : t₀.Change t₁) (h : t₀.withinLimits) : t₁.withinLimits := by
  obtain ⟨limits, discards⟩ := h
  have limits : ∀ r : Fin 8, t₀.requesters[r].withinLimits := limits
  cases m with
  | rephased _ hr hd => exact ⟨by rw [hr]; exact limits, hd ▸ discards⟩
  | written r level limit clear =>
    refine ⟨fun q => ?_, discards⟩
    rw [Hrt.setRequester_requesters]
    split
    · exact (limits q).write level limit clear
    · exact limits q
  | functionReset =>
    refine ⟨fun r => ?_, Nat.zero_le _⟩
    have kept : t₀.functionReset.requesters[r] = t₀.requesters[r].functionReset := Vector.getElem_ofFn r.isLt
    rw [kept]
    exact ⟨(limits r).1, (limits r).2.1, Nat.zero_le _, Nat.zero_le _⟩
  | freed e gone he f n hlimit hcount hrun hn =>
    refine ⟨fun r => ?_, hn discards⟩
    have freed : ((t₀.free e).requesters[r]).withinLimits := by
      obtain ⟨hlo, hhi, hc, hr⟩ := limits r
      rw [Hrt.free_requesters he]
      split
      · exact ⟨hlo, hhi, Nat.le_trans (Nat.sub_le _ _) hc, hr⟩
      · exact limits r
    show (((t₀.free e).setRequester gone.requester f).requesters[r]).withinLimits
    rw [Hrt.setRequester_requesters]
    split
    · obtain ⟨hlo, hhi, hc, -⟩ := freed
      exact ⟨by rwa [hlimit], by rwa [hlimit], by rwa [hcount], hrun _⟩
    · exact freed
  | created e x hit n _ _ hlimit =>
    refine ⟨fun r => ?_, discards⟩
    obtain ⟨hlo, hhi, hc, hr⟩ := limits r
    rw [Hrt.create_requesters]
    split
    · next hx =>
      have := Requester.atLimit_eq_false_iff.mp hlimit
      simp only [← hx] at this
      exact ⟨hlo, hhi, Nat.le_trans this hhi, hr⟩
    · exact limits r

theorem Hrt.Change.keeps_consistent (m : t₀.Change t₁) (h : t₀.consistent) : t₁.consistent := by
  obtain ⟨keys, ranks, limits, sizes⟩ := h
  exact ⟨m.keeps_keysDistinct keys, m.keeps_ordersRank ranks, m.keeps_withinLimits limits, m.keeps_sizesRuled sizes⟩

/-- Settles O54: every step changes the table in one of a few ways, and each of them keeps each part of the invariant. -/
theorem stepKeepsHeldTable : Obligations.StepKeepsHeldTable :=
  step_keeps (P := fun s => s.hrt.consistent) (ok := fun _ => True) (fun _ h => ⟨trivial, h⟩)
    (fun _ => State.reset_heldTable) id (fun _ m => m.table.keeps_consistent) fun p => p.table.keeps_consistent

end Sys2Proof.Machine
end

section
/-! SUPPORT. The posted writes that the entries wait for, kept by every change: with the obligation that steps keep the
order of held requests and posted writes (O55). -/

namespace Sys2Proof.Machine

variable {c : Instr} {s t : State} {t₀ t₁ : Hrt}

/-! ### What an entry waits for -/

theorem Held.waitsFor_of_not_queued {h : Held} (hq : h.isQueued = false) : h.waitsFor = 0 := by
  cases hp : h.phase with
  | queued n => simp [Held.isQueued, hp] at hq
  | _ => simp [Held.waitsFor, hp]

theorem Held.isQueued_of_inFlight {h : Held} (hf : h.inFlight = false) : h.isQueued = false := by
  cases hp : h.phase <;> simp [Held.isQueued, Held.inFlight, hp] at hf ⊢

/-- The entry has its number's requester and order, and if it still waits, it waits for `k` writes less. -/
def Held.DrainsFrom (k : Nat) (g h : Held) : Prop :=
  h.requester = g.requester ∧ h.order = g.order ∧
    (h.isQueued = true → g.isQueued = true ∧ h.waitsFor = g.waitsFor - k)

theorem Held.DrainsFrom.refl (h : Held) : h.DrainsFrom 0 h := ⟨rfl, rfl, fun hq => ⟨hq, rfl⟩⟩

theorem Held.drainsFrom_of_not_queued {k : Nat} {g h : Held} (hr : h.requester = g.requester) (ho : h.order = g.order)
    (hq : h.isQueued = false) : g.DrainsFrom k h := ⟨hr, ho, fun hq' => absurd (hq'.symm.trans hq) (by decide)⟩

theorem Held.drainsFrom_tick (h : Held) : h.DrainsFrom 0 h.tick := by
  cases hp : h.phase with
  | queued n =>
    have same : h.tick = h := by simp [Held.tick, hp]
    rw [same]
    exact .refl h
  | _ =>
    rw [Held.tick, hp]
    exact drainsFrom_of_not_queued rfl rfl rfl

theorem Held.drainsFrom_afterDeparture (h : Held) : h.DrainsFrom 1 h.afterDeparture := by
  cases hp : h.phase with
  | queued n => simp [Held.DrainsFrom, Held.afterDeparture, Held.isQueued, Held.waitsFor, hp]
  | _ =>
    rw [Held.afterDeparture, hp]
    exact drainsFrom_of_not_queued rfl rfl (by simp [Held.isQueued, hp])

/-! ### What the entries of a table wait for -/

/-- Every entry of the second table drains from the entry of the first one. -/
def Hrt.Drains (k : Nat) (t u : Hrt) : Prop :=
  ∀ i : Fin 16, ∀ h ∈ u.entries[i], ∃ g ∈ t.entries[i], g.DrainsFrom k h

/-- No entry waits for more than `n` writes, and an older entry never waits for more than a younger one. -/
def Hrt.WaitsKept (n : Nat) (t : Hrt) : Prop :=
  (∀ e : Fin 16, ∀ h ∈ t.entries[e], h.waitsFor ≤ n) ∧ t.olderWaitsLess

theorem Hrt.Drains.of_map {k : Nat} {f : Held → Held} (hf : ∀ h : Held, h.DrainsFrom k (f h))
    (hu : ∀ i : Fin 16, t₁.entries[i] = t₀.entries[i].map f) : t₀.Drains k t₁ := fun i h hh => by
  obtain ⟨g, hg, rfl⟩ := mem_entries_of_map (hu i) hh
  exact ⟨g, hg, hf g⟩

theorem Hrt.Drains.setHeld {f : Held → Held} (hf : ∀ h : Held, h.DrainsFrom 0 (f h)) (e : Fin 16) :
    t₀.Drains 0 (t₀.setHeld e f) := fun i h hh => by
  rw [Hrt.setHeld_entries] at hh
  split at hh
  · obtain ⟨g, hg, rfl⟩ := Option.map_eq_some_iff.mp hh
    exact ⟨g, hg, hf g⟩
  · exact ⟨h, hh, .refl h⟩

theorem Hrt.WaitsKept.drains {k n : Nat} (d : t₀.Drains k t₁) (h : t₀.WaitsKept n) : t₁.WaitsKept (n - k) := by
  obtain ⟨fit, older⟩ := h
  refine ⟨fun e h hh => ?_, fun e f h hh g hg ⟨hr, hhq, hgq, ho⟩ => ?_⟩
  · obtain ⟨h', hh', -, -, waits⟩ := d e h hh
    cases hq : h.isQueued with
    | false => exact Held.waitsFor_of_not_queued hq ▸ Nat.zero_le _
    | true => exact (waits hq).2 ▸ Nat.sub_le_sub_right (fit e h' hh') k
  · obtain ⟨h', hh', hhr, hho, hwaits⟩ := d e h hh
    obtain ⟨g', hg', hgr, hgo, gwaits⟩ := d f g hg
    obtain ⟨hq', hw⟩ := hwaits hhq
    obtain ⟨gq', gw⟩ := gwaits hgq
    rw [hw, gw]
    exact Nat.sub_le_sub_right (older e f h' hh' g' hg' ⟨hhr ▸ hgr ▸ hr, hq', gq', hho ▸ hgo ▸ ho⟩) k

theorem Hrt.WaitsKept.of_none_queued {n : Nat} (hq : ∀ e : Fin 16, ∀ h ∈ t₀.entries[e], h.isQueued = false) :
    t₀.WaitsKept n :=
  ⟨fun e h hh => Held.waitsFor_of_not_queued (hq e h hh) ▸ Nat.zero_le _,
    fun e _ h hh _ _ ⟨_, hhq, _, _⟩ => absurd (hhq.symm.trans (hq e h hh)) (by decide)⟩

theorem Hrt.WaitsKept.of_noneInFlight {n : Nat} (h : t₀.noneInFlight = true) : t₀.WaitsKept n :=
  .of_none_queued fun e g hg => Held.isQueued_of_inFlight (Hrt.noneInFlight_iff_forall.mp h e g hg)

theorem Held.moveUp_waitsFor (gone h : Held) : (gone.moveUp h).waitsFor = h.waitsFor := by
  unfold Held.moveUp
  split <;> rfl

theorem Held.moveUp_isQueued (gone h : Held) : (gone.moveUp h).isQueued = h.isQueued := by
  unfold Held.moveUp
  split <;> rfl

theorem Hrt.WaitsKept.free {n : Nat} {e : Fin 16} {gone : Held} (he : t₀.entries[e] = some gone)
    (hrank : t₀.ordersRank) (h : t₀.WaitsKept n) : (t₀.free e).WaitsKept n := by
  obtain ⟨fit, older⟩ := h
  refine ⟨fun i h hh => ?_, fun i j h hh g hg ⟨hr, hhq, hgq, ho⟩ => ?_⟩
  · obtain ⟨-, h', hh', rfl⟩ := Hrt.mem_free he hh
    exact Held.moveUp_waitsFor gone h' ▸ fit i h' hh'
  · obtain ⟨hi, h', hh', rfl⟩ := Hrt.mem_free he hh
    obtain ⟨hj, g', hg', rfl⟩ := Hrt.mem_free he hg
    rw [Held.moveUp_requester, Held.moveUp_requester] at hr
    rw [Held.moveUp_isQueued] at hhq hgq
    rw [Held.moveUp_waitsFor, Held.moveUp_waitsFor]
    exact older i j h' hh' g' hg' ⟨hr, hhq, hgq,
      (Held.moveUp_order_le_iff hr (hrank.order_ne he hh' hi) (hrank.order_ne he hg' hj)).mp ho⟩

/-- The new entry is the youngest of its requester, and waits for all writes in the queue (R16, R18). -/
theorem Hrt.WaitsKept.create {n : Nat} (hrank : t₀.ordersRank) (h : t₀.WaitsKept n) (e : Fin 16) (x : Transfer)
    (hit : Hit) : (t₀.create e x hit n).WaitsKept n := by
  obtain ⟨fit, older⟩ := h
  refine ⟨fun i h hh => ?_, fun i j h hh g hg ⟨hr, hhq, hgq, ho⟩ => ?_⟩
  · rw [Hrt.create_entries] at hh
    split at hh
    · cases hh
      exact Nat.le_refl n
    · exact fit i h hh
  · rw [Hrt.create_entries] at hh hg
    split at hh <;> split at hg
    · cases hh
      cases hg
      exact Nat.le_refl _
    · cases hh
      have range := (hrank.2.1 j g hg).2
      simp only [← hr] at range
      exact absurd (Nat.le_trans ho range) (Nat.not_succ_le_self _)
    · cases hg
      exact fit i h hh
    · exact older i j h hh g hg ⟨hr, hhq, hgq, ho⟩

/-! ### The order of entries and writes -/

theorem State.writesOrdered_iff :
    s.writesOrdered ↔
      s.hrt.ordersRank ∧ s.pwq.queue.length ≤ 16 ∧ s.pwq.lostWrites ≤ 65535 ∧ s.hrt.WaitsKept s.pwq.queue.length :=
  ⟨fun ⟨hrank, ⟨hlen, hlost, hfit⟩, holder⟩ => ⟨hrank, hlen, hlost, hfit, holder⟩,
    fun ⟨hrank, hlen, hlost, hfit, holder⟩ => ⟨hrank, ⟨hlen, hlost, hfit⟩, holder⟩⟩

theorem Move.keeps_queue (m : Move c s t) (h : s.pwq.queue.length ≤ 16 ∧ s.pwq.lostWrites ≤ 65535) :
    t.pwq.queue.length ≤ 16 ∧ t.pwq.lostWrites ≤ 65535 := by
  cases m with
  | functionReset => exact ⟨Nat.zero_le _, Nat.zero_le _⟩
  | disabled | failed | sessionEnded =>
    simp only [State.disable_pwq, State.enterFailed_pwq, State.freshStart_pwq, State.teardown_pwq]
    exact ⟨Nat.zero_le _, Nat.min_le_left _ _⟩
  | posted w _ hroom =>
    refine ⟨?_, h.2⟩
    simp only [List.length_append, List.length_singleton]
    exact hroom
  | departed w rest hq =>
    rw [State.sendNew_pwq]
    exact ⟨Nat.le_of_succ_le (hq ▸ h.1 : (w :: rest).length ≤ 16), h.2⟩
  | _ => exact h

theorem Held.drainsFrom_fail (cause : FailCause) (n : Nat) (h : Held) : h.DrainsFrom 0 (h.fail cause n) :=
  drainsFrom_of_not_queued rfl rfl rfl

theorem Held.drainsFrom_issued (tag : Fin 32) (n : Nat) (h : Held) : h.DrainsFrom 0 { h with phase := .issued tag n } :=
  drainsFrom_of_not_queued rfl rfl rfl

theorem Held.drainsFrom_completed (status : CpStatus) (data : List Byte) (n : Nat) (h : Held) :
    h.DrainsFrom 0 (h.completed status data n) := by
  unfold Held.completed
  split <;> exact drainsFrom_of_not_queued rfl rfl rfl

theorem Move.keeps_waits (m : Move c s t) (hrank : s.hrt.ordersRank) (h : s.hrt.WaitsKept s.pwq.queue.length) :
    t.hrt.WaitsKept t.pwq.queue.length := by
  cases m with
  | functionReset => exact .of_noneInFlight s.hrt.noneInFlight_functionReset
  | disabled | failed | sessionEnded =>
    simp only [State.disable_hrt, State.enterFailed_hrt, State.freshStart_hrt, State.teardown_hrt]
    exact .of_noneInFlight s.hrt.noneInFlight_teardown
  | created x hit e => exact h.create hrank e x hit
  | collected e g he | discarded e g he => exact h.free he hrank
  | quarantined e => exact h.drains (.setHeld (Held.drainsFrom_fail _ _) e)
  | completed e _ _ status data => exact h.drains (.setHeld (Held.drainsFrom_completed status data _) e)
  | issued _ tag e => exact h.drains (.setHeld (Held.drainsFrom_issued tag _) e)
  | posted =>
    refine ⟨fun e g hg => Nat.le_trans (h.1 e g hg) ?_, h.2⟩
    simp only [List.length_append, Nat.le_add_right]
  | departed w rest hq =>
    rw [State.sendNew_hrt, State.sendNew_pwq]
    have drained := h.drains (.of_map Held.drainsFrom_afterDeparture (Hrt.departure_entries _))
    rwa [hq] at drained
  | _ => exact h

theorem Move.keeps_writesOrdered (m : Move c s t) (h : s.writesOrdered) : t.writesOrdered := by
  obtain ⟨hrank, hlen, hlost, hwaits⟩ := State.writesOrdered_iff.mp h
  obtain ⟨hlen', hlost'⟩ := m.keeps_queue ⟨hlen, hlost⟩
  exact State.writesOrdered_iff.mpr ⟨m.table.keeps_ordersRank hrank, hlen', hlost', m.keeps_waits hrank hwaits⟩

theorem Passes.keeps_writesOrdered (p : Passes s t) (h : s.writesOrdered) : t.writesOrdered := by
  obtain ⟨hrank, hlen, hlost, hwaits⟩ := State.writesOrdered_iff.mp h
  have hrank' := p.table.keeps_ordersRank hrank
  cases p with
  | ticked =>
    exact State.writesOrdered_iff.mpr ⟨hrank', hlen, hlost,
      hwaits.drains (.of_map Held.drainsFrom_tick (Hrt.tick_entries _))⟩
  | _ => exact h

/-- Settles O55: creation orders rank the entries throughout, and every change keeps what the entries wait for. -/
theorem stepKeepsWritesOrdered : Obligations.StepKeepsWritesOrdered :=
  step_keeps (P := State.writesOrdered) (ok := fun _ => True) (fun _ h => ⟨trivial, h⟩)
    (fun _ => State.reset_writesOrdered) id (fun _ m => m.keeps_writesOrdered) Passes.keeps_writesOrdered

end Sys2Proof.Machine
end

section
/-! SUPPORT. The ledger of the session, kept by every change: where a session stands, its offers, its tags and its credits.
With the obligation that steps keep it (O56). -/

namespace Sys2Proof.Machine

variable {c : Instr} {s t : State} {t₀ t₁ : Hrt} {u : Isu}

/-! ### Where a session stands -/

theorem Ltc.sessionPlaced_of_training {c : Ltc} {l : LinkState} (hl : c.link = l) (hoff : l ≠ .off := by decide)
    (hfailed : l ≠ .failed := by decide) (hactive : l ≠ .active := by decide) : c.sessionPlaced :=
  ⟨fun down => absurd down (not_or.mpr ⟨hl ▸ hoff, hl ▸ hfailed⟩), fun active => absurd (hl ▸ active) hactive⟩

theorem Ltc.sessionPlaced_of_down {c : Ltc} {l : LinkState} (hl : c.link = l) (hp : c.partnerSession = 0)
    (hactive : l ≠ .active := by decide) : c.sessionPlaced :=
  ⟨fun _ => hp, fun active => absurd (hl ▸ active) hactive⟩

theorem Ltc.sessionPlaced_of_active {c : Ltc} (hl : c.link = .active) (hp : c.partnerSession ≠ 0) : c.sessionPlaced :=
  ⟨fun down => absurd down (not_or.mpr ⟨by rw [hl]; decide, by rw [hl]; decide⟩), fun _ => hp⟩

theorem Move.keeps_sessionPlaced (m : Move c s t) (h : s.ltc.sessionPlaced) : t.ltc.sessionPlaced := by
  cases m with
  | functionReset => exact Ltc.sessionPlaced_of_down (l := .off) rfl rfl
  | freshStart | retrained | attemptCounted | fellBack => exact Ltc.sessionPlaced_of_training (l := .seek) rfl
  | aligned => exact Ltc.sessionPlaced_of_training (l := .align) rfl
  | exchanged => exact Ltc.sessionPlaced_of_training (l := .exchange) rfl
  | sessionEnded =>
    rw [State.freshStart_ltc]
    exact Ltc.sessionPlaced_of_training (l := .seek) rfl
  | disabled =>
    rw [State.disable_ltc]
    exact Ltc.sessionPlaced_of_down (l := .off) rfl rfl
  | failed =>
    rw [State.enterFailed_ltc]
    exact Ltc.sessionPlaced_of_down (l := .failed) rfl rfl
  | sessionStarted _ _ _ hn => exact Ltc.sessionPlaced_of_active rfl hn
  | sessionResumed _ hstands => exact Ltc.sessionPlaced_of_active rfl hstands
  | _ => exact h

/-! ### The offers -/

/-- The offers in force are those recorded, in the terms of the two blocks. -/
def Isu.Offers (u : Isu) (c : Ltc) : Prop :=
  u.allowance = c.requestOffer ∧ u.writeOffer = c.writeOffer ∧
    (c.partnerSession = 0 → u.allowance = 0 ∧ u.writeOffer = 0) ∧
    (c.partnerSession ≠ 0 → 1 ≤ u.allowance ∧ u.allowance ≤ 32 ∧ 1 ≤ u.writeOffer ∧ u.writeOffer ≤ 64)

theorem Isu.Offers.none {c : Ltc} (ha : u.allowance = 0) (hw : u.writeOffer = 0) (hq : c.requestOffer = 0)
    (hc : c.writeOffer = 0) (hp : c.partnerSession = 0) : u.Offers c :=
  ⟨ha.trans hq.symm, hw.trans hc.symm, fun _ => ⟨ha, hw⟩, fun hne => absurd hp hne⟩

theorem Move.keeps_offers (m : Move c s t) (hplaced : s.ltc.sessionPlaced) (h : s.isu.Offers s.ltc) :
    t.isu.Offers t.ltc := by
  cases m with
  | functionReset => exact .none rfl rfl rfl rfl rfl
  | freshStart down =>
    obtain ⟨hq, hw, hnone, -⟩ := h
    have none := hnone (hplaced.1 down)
    exact ⟨hq, hw, fun _ => none, fun hne => absurd rfl hne⟩
  | sessionEnded =>
    rw [State.freshStart_isu, State.teardown_isu, State.freshStart_ltc, State.teardown_ltc]
    exact .none rfl rfl rfl rfl rfl
  | disabled =>
    rw [State.disable_isu, State.disable_ltc]
    exact .none rfl rfl rfl rfl rfl
  | failed =>
    rw [State.enterFailed_isu, State.enterFailed_ltc]
    exact .none rfl rfl rfl rfl rfl
  | sessionStarted n q w hn hq hw =>
    exact ⟨rfl, rfl, fun hz => absurd hz hn, fun _ => ⟨hq.1, hq.2, hw.1, hw.2⟩⟩
  | departed =>
    rw [State.sendNew_isu, State.sendNew_ltc]
    exact h
  | _ => exact h

/-! ### The tags -/

/-- The entry with this number holds this tag. -/
def Hrt.holds (t : Hrt) (e : Fin 16) (tag : Fin 32) : Bool := t.entries[e].any (Held.holdsTag tag)

theorem Hrt.holds_iff {e : Fin 16} {tag : Fin 32} :
    t₀.holds e tag = true ↔ ∃ h ∈ t₀.entries[e], h.holdsTag tag = true := by
  rw [Hrt.holds]
  cases t₀.entries[e] <;> simp

/-- The tags are as the entries hold them. -/
structure Isu.Matches (u : Isu) (t : Hrt) : Prop where
  held : ∀ x : Fin 32, u.tags[x] = .held ↔ ∃ e, t.holds e x = true
  unique : ∀ (x : Fin 32) (e f : Fin 16), t.holds e x = true → t.holds f x = true → e = f
  below : ∀ x : Fin 32, u.tags[x] ≠ .free → x.val < u.allowance

theorem State.matches_iff : s.isu.Matches s.hrt ↔ s.tagsMatch :=
  ⟨fun ⟨held, unique, below⟩ => ⟨held, unique, below⟩, fun ⟨held, unique, below⟩ => ⟨held, unique, below⟩⟩

theorem Isu.Matches.of_same_holders {v : Isu} (h : u.Matches t₀) (ht : v.tags = u.tags) (ha : v.allowance = u.allowance)
    (hh : ∀ e x, t₁.holds e x = t₀.holds e x) : v.Matches t₁ := by
  have same : t₁.holds = t₀.holds := funext fun e => funext (hh e)
  exact ⟨fun x => by rw [ht, same]; exact h.held x, same ▸ h.unique, fun x hx => by rw [ha]; exact h.below x (ht ▸ hx)⟩

/-- With all tags FREE and nothing in flight, the tags are as the entries hold them. -/
theorem Isu.Matches.of_noneInFlight (ht : t₀.noneInFlight = true) (hu : ∀ x : Fin 32, u.tags[x] = .free) :
    u.Matches t₀ := by
  have idle : ∀ e x, t₀.holds e x = false := by
    intro e x
    refine Bool.eq_false_iff.mpr fun holds => ?_
    obtain ⟨h, he, htag⟩ := Hrt.holds_iff.mp holds
    exact absurd ((Held.inFlight_of_holdsTag htag).symm.trans (Hrt.noneInFlight_iff_forall.mp ht e h he)) (by decide)
  exact ⟨fun x => by simp [hu x, idle], fun x e _ holds => absurd (holds.symm.trans (idle e x)) (by decide),
    fun x hx => absurd (hu x) hx⟩

theorem Held.holdsTag_of_not_inFlight {h : Held} (hf : h.inFlight = false) (x : Fin 32) : h.holdsTag x = false :=
  Bool.eq_false_iff.mpr fun htag => absurd ((Held.inFlight_of_holdsTag htag).symm.trans hf) (by decide)

theorem Held.holdsTag_of_phase {g h : Held} (hp : g.phase = h.phase) (x : Fin 32) : g.holdsTag x = h.holdsTag x := by
  rw [Held.holdsTag, Held.holdsTag, hp]

theorem Hrt.holds_of_map {f : Held → Held} (hf : ∀ h x, (f h).holdsTag x = h.holdsTag x)
    (hu : ∀ i : Fin 16, t₁.entries[i] = t₀.entries[i].map f) (e : Fin 16) (x : Fin 32) : t₁.holds e x = t₀.holds e x := by
  rw [Hrt.holds, Hrt.holds, hu, Option.any_map]
  simp only [hf]

theorem Held.holdsTag_tick (h : Held) (x : Fin 32) : h.tick.holdsTag x = h.holdsTag x := by
  cases hp : h.phase <;> simp [Held.tick, Held.holdsTag, hp]

theorem Held.holdsTag_afterDeparture (h : Held) (x : Fin 32) : h.afterDeparture.holdsTag x = h.holdsTag x := by
  cases hp : h.phase <;> simp [Held.afterDeparture, Held.holdsTag, hp]

theorem Hrt.holds_free {e : Fin 16} {gone : Held} (he : t₀.entries[e] = some gone) (hdone : gone.inFlight = false)
    (i : Fin 16) (x : Fin 32) : (t₀.free e).holds i x = t₀.holds i x := by
  rw [Hrt.holds, Hrt.holds, Hrt.free_entries he]
  by_cases hi : i = e
  · rw [if_pos hi, hi, he]
    exact (Held.holdsTag_of_not_inFlight hdone x).symm
  · rw [if_neg hi, Option.any_map]
    simp only [Held.holdsTag_of_phase (Held.moveUp_phase gone _)]

theorem Hrt.holds_create {e : Fin 16} (he : t₀.entries[e] = none) (x : Transfer) (hit : Hit) (n : Nat) (i : Fin 16)
    (tag : Fin 32) : (t₀.create e x hit n).holds i tag = t₀.holds i tag := by
  rw [Hrt.holds, Hrt.holds, Hrt.create_entries]
  by_cases hi : i = e
  · rw [if_pos hi, hi, he]
    rfl
  · rw [if_neg hi]

theorem Hrt.holds_setHeld {e : Fin 16} {h : Held} (he : t₀.entries[e] = some h) (f : Held → Held) (i : Fin 16)
    (x : Fin 32) : (t₀.setHeld e f).holds i x = if i = e then (f h).holdsTag x else t₀.holds i x := by
  rw [Hrt.holds, Hrt.setHeld_entries]
  by_cases hi : i = e
  · rw [if_pos hi, if_pos hi, hi, he]
    rfl
  · rw [if_neg hi, if_neg hi]
    rfl

/-- An entry holds one tag at most. -/
theorem Held.holdsTag_inj {h : Held} {x y : Fin 32} (hx : h.holdsTag x = true) (hy : h.holdsTag y = true) : x = y := by
  obtain ⟨n, hn⟩ := Held.holdsTag_iff.mp hx
  obtain ⟨k, hk⟩ := Held.holdsTag_iff.mp hy
  rw [hn] at hk
  cases hk
  rfl

/-- An entry gives up its tag. -/
theorem Isu.Matches.release {e : Fin 16} {h : Held} {tag : Fin 32} {x : TagState} {f : Held → Held}
    (hm : u.Matches t₀) (he : t₀.entries[e] = some h) (htag : h.holdsTag tag = true) (hx : x ≠ .held)
    (hf : (f h).inFlight = false) : (u.setTag tag x).Matches (t₀.setHeld e f) := by
  have holds : ∀ i y, (t₀.setHeld e f).holds i y = true ↔ t₀.holds i y = true ∧ y ≠ tag := by
    intro i y
    rw [Hrt.holds_setHeld he]
    have here : t₀.holds e y = h.holdsTag y := by rw [Hrt.holds, he]; rfl
    have holder : t₀.holds e tag = true := by rw [Hrt.holds, he]; exact htag
    by_cases hi : i = e
    · rw [if_pos hi, hi, here, Held.holdsTag_of_not_inFlight hf]
      exact ⟨fun hff => absurd hff (by decide), fun ⟨hy, hne⟩ => absurd (Held.holdsTag_inj hy htag) hne⟩
    · rw [if_neg hi]
      exact ⟨fun hy => ⟨hy, fun heq => hi (hm.unique tag i e (heq ▸ hy) holder)⟩, And.left⟩
  have below := hm.below tag (by rw [(hm.held tag).mpr ⟨e, by rw [Hrt.holds, he]; exact htag⟩]; decide)
  refine ⟨fun y => ?_, fun y i j hi hj => hm.unique y i j ((holds i y).mp hi).1 ((holds j y).mp hj).1, fun y hy => ?_⟩
  · simp only [Isu.setTag_tags, holds]
    by_cases hyt : y = tag
    · simp [hyt, hx]
    · simpa [hyt] using hm.held y
  · rw [Isu.setTag_tags] at hy
    by_cases hyt : y = tag
    · exact hyt ▸ below
    · rw [if_neg hyt] at hy
      exact hm.below y hy

theorem Isu.Matches.freeTag {tag : Fin 32} (hm : u.Matches t₀) (hnone : u.tags[tag] ≠ .held) :
    (u.setTag tag .free).Matches t₀ := by
  refine ⟨fun y => ?_, hm.unique, fun y hy => ?_⟩
  · rw [Isu.setTag_tags, ← hm.held y]
    by_cases hyt : y = tag
    · rw [if_pos hyt, hyt]
      exact ⟨fun heq => absurd heq (by decide), fun heq => absurd heq hnone⟩
    · rw [if_neg hyt]
  · rw [Isu.setTag_tags] at hy
    by_cases hyt : y = tag
    · rw [if_pos hyt] at hy
      exact absurd rfl hy
    · rw [if_neg hyt] at hy
      exact hm.below y hy

/-- A QUEUED entry takes a FREE tag. -/
theorem Isu.Matches.take {e : Fin 16} {h : Held} {tag : Fin 32} (hm : u.Matches t₀) (he : t₀.entries[e] = some h)
    (hq : h.isQueued = true) (hfree : u.tags[tag] = .free) (hbelow : tag.val < u.allowance) (ticks : Nat) :
    (u.setTag tag .held).Matches (t₀.issue e tag ticks) := by
  have nobody : ∀ i, t₀.holds i tag = false := fun i =>
    Bool.eq_false_iff.mpr fun hi => absurd (((hm.held tag).mpr ⟨i, hi⟩).symm.trans hfree) (by decide)
  have nothing : ∀ y, t₀.holds e y = false := by
    intro y
    rw [Hrt.holds, he]
    cases hp : h.phase with
    | queued => simp [Held.holdsTag, hp]
    | _ => simp [Held.isQueued, hp] at hq
  have holds : ∀ i y, (t₀.issue e tag ticks).holds i y = true ↔ (t₀.holds i y = true ∧ y ≠ tag) ∨ (i = e ∧ y = tag) := by
    intro i y
    rw [Hrt.issue, Hrt.holds_setHeld he]
    by_cases hi : i = e
    · rw [if_pos hi, hi, nothing]
      simp [Held.holdsTag, eq_comm (a := tag)]
    · rw [if_neg hi]
      by_cases hyt : y = tag
      · simp [hi, hyt, nobody]
      · simp [hi, hyt]
  refine ⟨fun y => ?_, fun y i j hi hj => ?_, fun y hy => ?_⟩
  · simp only [Isu.setTag_tags, holds]
    by_cases hyt : y = tag
    · simp [hyt]
    · simpa [hyt] using hm.held y
  · rcases (holds i y).mp hi with ⟨hi, hne⟩ | ⟨hi, heq⟩ <;> rcases (holds j y).mp hj with ⟨hj, hne'⟩ | ⟨hj, heq'⟩
    · exact hm.unique y i j hi hj
    · exact absurd heq' hne
    · exact absurd heq hne'
    · rw [hi, hj]
  · rw [Isu.setTag_tags] at hy
    by_cases hyt : y = tag
    · exact hyt ▸ hbelow
    · rw [if_neg hyt] at hy
      exact hm.below y hy

theorem Held.completed_inFlight (h : Held) (status : CpStatus) (data : List Byte) (n : Nat) :
    (h.completed status data n).inFlight = false := by
  unfold Held.completed
  split <;> rfl

theorem Move.keeps_matches (m : Move c s t) (hoffers : s.isu.Offers s.ltc) (h : s.isu.Matches s.hrt) :
    t.isu.Matches t.hrt := by
  cases m with
  | functionReset =>
    exact .of_noneInFlight s.hrt.noneInFlight_functionReset fun x => by simp [Isu.functionReset, Isu.teardown]
  | disabled | failed | sessionEnded =>
    simp only [State.disable_hrt, State.enterFailed_hrt, State.freshStart_hrt, State.teardown_hrt, State.disable_isu,
      State.enterFailed_isu, State.freshStart_isu, State.teardown_isu]
    exact .of_noneInFlight s.hrt.noneInFlight_teardown fun x => by simp [Isu.teardown]
  | sessionStarted _ _ _ _ _ _ _ hnone =>
    have empty : s.isu.allowance = 0 := (hoffers.2.2.1 hnone).1
    exact ⟨h.held, h.unique, fun x hx => absurd (h.below x hx) (by rw [empty]; exact Nat.not_lt_zero _)⟩
  | created x hit e _ _ _ _ hfree => exact h.of_same_holders rfl rfl (Hrt.holds_create hfree x hit _)
  | collected e g he hdone | discarded e g he hdone => exact h.of_same_holders rfl rfl (Hrt.holds_free he hdone)
  | quarantined e g tag n he hp => exact h.release he (Held.holdsTag_iff.mpr ⟨n, hp⟩) (by decide) rfl
  | completed e g tag status data he htag => exact h.release he htag (by decide) (g.completed_inFlight status data _)
  | tagFreed tag hfree =>
    refine h.freeTag ?_
    rcases hfree with hq | hnone
    · rw [hq]
      decide
    · intro held
      obtain ⟨e, holds⟩ := (h.held tag).mp held
      obtain ⟨g, he, htag⟩ := Hrt.holds_iff.mp holds
      exact absurd (htag.symm.trans (hnone e g he)) (by decide)
  | departed =>
    rw [State.sendNew_hrt, State.sendNew_isu]
    exact h.of_same_holders rfl rfl (Hrt.holds_of_map Held.holdsTag_afterDeparture s.hrt.departure_entries)
  | issued g tag e k _ htag hc =>
    obtain ⟨he, -, hq, -⟩ := Hrt.candidate_some hc
    obtain ⟨⟨hfree, hbelow⟩, -⟩ := Isu.lowestFreeTag_eq_some.mp htag
    exact (h.take he hq hfree hbelow s.isu.completionTicks).of_same_holders rfl rfl fun _ _ => rfl
  | _ => exact h.of_same_holders rfl rfl fun _ _ => rfl

/-! ### The credits -/

theorem Isu.creditsFit.of_none_in_use (hs : u.sent = u.returned) (hw : u.writeOffer ≤ 64) : u.creditsFit := by
  have none : u.creditsInUse = 0 := by
    rw [Isu.creditsInUse, hs, BitVec.sub_self]
    rfl
  exact ⟨none ▸ Nat.zero_le _, hw⟩

theorem Isu.creditsFit.departure (h : u.creditsFit) (hcredit : 1 ≤ u.creditsAvailable) : u.departure.creditsFit := by
  obtain ⟨hfit, hoffer⟩ := h
  have room : u.creditsInUse + 1 ≤ u.writeOffer := by
    rw [Isu.creditsAvailable] at hcredit
    omega
  have one : u.departure.creditsInUse = u.creditsInUse + 1 := by
    rw [Isu.creditsInUse] at room ⊢
    simp only [Isu.departure, Isu.creditsInUse]
    bv_omega
  exact ⟨one ▸ room, hoffer⟩

theorem Isu.creditsFit.returned {total : BitVec 8} (h : u.creditsFit) (hle : u.advance total ≤ u.creditsInUse) :
    ({ u with returned := total } : Isu).creditsFit := by
  obtain ⟨hfit, hoffer⟩ := h
  have less : ({ u with returned := total } : Isu).creditsInUse ≤ u.creditsInUse := by
    simp only [Isu.advance, Isu.creditsInUse] at hle ⊢
    bv_omega
  exact ⟨Nat.le_trans less hfit, hoffer⟩

theorem Move.keeps_creditsFit (m : Move c s t) (h : s.isu.creditsFit) : t.isu.creditsFit := by
  cases m with
  | functionReset => exact Isu.creditsFit.of_none_in_use rfl (Nat.zero_le _)
  | disabled | failed | sessionEnded =>
    simp only [State.disable_isu, State.enterFailed_isu, State.freshStart_isu, State.teardown_isu]
    exact Isu.creditsFit.of_none_in_use rfl (Nat.zero_le _)
  | sessionStarted _ _ _ _ _ hw => exact Isu.creditsFit.of_none_in_use rfl hw.2
  | credited _ hle => exact h.returned hle
  | departed _ _ _ hcredit =>
    rw [State.sendNew_isu]
    exact h.departure hcredit
  | _ => exact h

/-! ### The ledger -/

theorem State.ledgerKept_iff :
    s.ledgerKept ↔ s.ltc.sessionPlaced ∧ s.isu.Offers s.ltc ∧ s.isu.Matches s.hrt ∧ s.isu.creditsFit :=
  and_congr_right' (and_congr_right' (and_congr_left' State.matches_iff.symm))

theorem Move.keeps_ledger (m : Move c s t) (h : s.ledgerKept) : t.ledgerKept := by
  obtain ⟨hplaced, hoffers, hmatches, hcredits⟩ := State.ledgerKept_iff.mp h
  exact State.ledgerKept_iff.mpr ⟨m.keeps_sessionPlaced hplaced, m.keeps_offers hplaced hoffers,
    m.keeps_matches hoffers hmatches, m.keeps_creditsFit hcredits⟩

theorem Passes.keeps_ledger (p : Passes s t) (h : s.ledgerKept) : t.ledgerKept := by
  cases p with
  | ticked =>
    obtain ⟨hplaced, hoffers, hmatches, hcredits⟩ := State.ledgerKept_iff.mp h
    exact State.ledgerKept_iff.mpr ⟨hplaced, hoffers,
      hmatches.of_same_holders rfl rfl (Hrt.holds_of_map Held.holdsTag_tick (Hrt.tick_entries _)), hcredits⟩
  | _ => exact h

/-- Settles O56: every change keeps each part of the ledger; a session starts with every tag FREE. -/
theorem stepKeepsTagsAndCredits : Obligations.StepKeepsTagsAndCredits :=
  step_keeps (P := State.ledgerKept) (ok := fun _ => True) (fun _ h => ⟨trivial, h⟩)
    (fun _ => State.reset_ledgerKept) id (fun _ m => m.keeps_ledger) Passes.keeps_ledger

end Sys2Proof.Machine
end

section
/-! SUPPORT. The replay buffer, kept by every change: its consecutive numbers, the position of a pass in it, and what is
left of a session outside ACTIVE. With the obligation that steps keep it (O57). -/

namespace Sys2Proof.Machine

variable {c : Instr} {s t : State} {x y : Ltx} {z : Lrx}

/-! ### Consecutive numbers -/

/-- Consecutive numbers, said of each place of the buffer. -/
theorem Ltx.numbered_iff :
    x.numbered ↔ x.buffer.length ≤ 32 ∧
      ∀ i, ∀ h : i < x.buffer.length, x.buffer[i].number = x.next - BitVec.ofNat 7 (x.buffer.length - i) := by
  refine and_congr_right' ⟨fun heq i h => ?_, fun hall => List.ext_getElem (by simp) fun i h _ => ?_⟩
  · have at_i := List.getElem_of_eq heq (i := i) (by simpa using h)
    simpa using at_i
  · simpa using hall i (by simpa using h)

/-- The frames that are left keep their consecutive numbers. -/
theorem Ltx.numbered.drop {k : Nat} (h : x.numbered) (hbuffer : y.buffer = x.buffer.drop k) (hnext : y.next = x.next) :
    y.numbered := by
  rw [Ltx.numbered_iff] at h ⊢
  obtain ⟨hlen, hnum⟩ := h
  rw [hbuffer, hnext]
  refine ⟨by rw [List.length_drop]; omega, fun i hi => ?_⟩
  rw [List.length_drop] at hi
  rw [List.getElem_drop, hnum (k + i) (by omega), List.length_drop, Nat.sub_sub]

/-- A frame taken in has the next number, and the number after it is the next one (R106). -/
theorem Ltx.numbered.takeIn (h : x.numbered) (hroom : x.buffer.length < 32) (bytes : List Byte) :
    (x.takeIn bytes).numbered := by
  rw [Ltx.numbered_iff] at h ⊢
  obtain ⟨-, hnum⟩ := h
  have hlen : (x.takeIn bytes).buffer.length = x.buffer.length + 1 := by simp [Ltx.takeIn]
  have next : (x.takeIn bytes).next = x.next + 1 := rfl
  refine ⟨hlen ▸ hroom, fun i hi => ?_⟩
  simp only [hlen, next]
  rcases Nat.lt_succ_iff_lt_or_eq.mp (hlen ▸ hi) with old | new
  · have same : (x.takeIn bytes).buffer[i] = x.buffer[i] := by simp [Ltx.takeIn, old]
    rw [same, hnum i old, show x.buffer.length + 1 - i = (x.buffer.length - i) + 1 by omega, BitVec.ofNat_add]
    bv_omega
  · have last : (x.takeIn bytes).buffer[i].number = x.next := by simp [Ltx.takeIn, new]
    rw [last, new, Nat.add_sub_cancel_left]
    exact (BitVec.add_sub_cancel x.next 1).symm

/-! ### The transmitter -/

/-- What holds of the replay buffer, a running pass and the replay timer. -/
structure Ltx.ReplayKept (x : Ltx) : Prop where
  numbered : x.numbered
  passPlaced : x.passPlaced
  timer : x.replayTimer ≠ none → x.buffer ≠ []

theorem Ltx.ReplayKept.of_empty (hbuffer : x.buffer = []) (hpass : x.pass = none) (htimer : x.replayTimer = none) :
    x.ReplayKept where
  numbered := by rw [Ltx.numbered_iff, hbuffer]; exact ⟨Nat.zero_le _, fun _ h => absurd h (Nat.not_lt_zero _)⟩
  passPlaced := by rw [Ltx.passPlaced, hpass]; exact fun _ hp => nomatch hp
  timer := fun running => absurd htimer running

/-- The oldest frame of a buffer is a frame of it. -/
theorem mem_of_head?_number {l : List SentFrame} {p : BitVec 7} (h : p ∈ l.head?.map SentFrame.number) :
    ∃ f ∈ l, f.number = p := by
  obtain ⟨f, hf, hp⟩ := Option.map_eq_some_iff.mp h
  exact ⟨f, List.mem_of_head? hf, hp⟩

/-- A pass that goes on after progress stands at a frame that is left (R108). -/
theorem mem_of_passAfter {l : List SentFrame} {p q : BitVec 7} (h : q ∈ passAfter l p) : ∃ f ∈ l, f.number = q := by
  unfold passAfter at h
  split at h
  · next hany =>
    cases h
    obtain ⟨f, hf, hp⟩ := List.any_eq_true.mp hany
    exact ⟨f, hf, beq_iff_eq.mp hp⟩
  · exact mem_of_head?_number h

/-- The frames that progress leaves are the last ones of the buffer. -/
theorem Ltx.progress_buffer (n : BitVec 7) (x : Ltx) : ∃ k, (x.progress n).buffer = x.buffer.drop k := by
  obtain ⟨freed, hfreed⟩ := (List.tail_suffix _).trans (List.dropWhile_suffix (l := x.buffer) fun f => f.number != n)
  exact ⟨freed.length, by rw [← hfreed, List.drop_left]; rfl⟩

theorem Ltx.ReplayKept.progress (h : x.ReplayKept) (n : BitVec 7) : (x.progress n).ReplayKept where
  numbered := by
    obtain ⟨k, hk⟩ := x.progress_buffer n
    exact h.numbered.drop hk rfl
  passPlaced := fun p hp => by
    obtain ⟨q, -, hq⟩ := Option.mem_bind_iff.mp hp
    exact mem_of_passAfter hq
  timer := fun running hempty => running (if_pos (List.isEmpty_iff.mpr hempty))

theorem Ltx.ReplayKept.takeIn (h : x.ReplayKept) (hroom : x.buffer.length < 32) (bytes : List Byte) :
    (x.takeIn bytes).ReplayKept where
  numbered := h.numbered.takeIn hroom bytes
  passPlaced := fun p hp => by
    obtain ⟨f, hf, hfp⟩ := h.passPlaced p hp
    exact ⟨f, List.mem_append_left _ hf, hfp⟩
  timer := fun _ => by simp [Ltx.takeIn]

theorem Ltx.ReplayKept.startPass (h : x.ReplayKept) : x.startPass.ReplayKept :=
  { h with passPlaced := fun _ hp => mem_of_head?_number hp }

theorem Ltx.ReplayKept.returnToActive (h : x.ReplayKept) : x.returnToActive.ReplayKept := by
  have stopped : ({ x with shortRetry := 0, replayTimer := none, akDue := true } : Ltx).ReplayKept :=
    { h with timer := fun running => absurd rfl running }
  unfold Ltx.returnToActive
  simp only
  split
  · exact stopped
  · exact stopped.startPass

theorem Move.keeps_replay (m : Move c s t) (hnone : s.ltc.partnerSession = 0 → s.ltx.buffer = [])
    (h : s.ltx.ReplayKept) : t.ltx.ReplayKept := by
  cases m with
  | functionReset => exact .of_empty rfl rfl rfl
  | disabled | failed | sessionEnded =>
    simp only [State.disable_ltx, State.enterFailed_ltx, State.freshStart_ltx, State.teardown_ltx]
    exact .of_empty rfl rfl rfl
  | retrained =>
    exact { h with passPlaced := fun _ hp => (nomatch hp), timer := fun running => absurd rfl running }
  | sessionStarted _ _ _ _ _ _ _ hno => exact .of_empty (hnone hno) rfl rfl
  | sessionResumed => exact h.returnToActive
  | progressed n => exact h.progress n
  | passStarted => exact Ltx.ReplayKept.startPass { h with }
  | replayTimerStopped => exact { h with timer := fun running => absurd rfl running }
  | passEnded => exact { h with passPlaced := fun _ hp => nomatch hp }
  | passMoved f _ hf => exact { h with passPlaced := fun _ hp => ⟨f, hf, Option.some.inj hp⟩ }
  | replayTimerStarted _ hb => exact { h with timer := fun _ => hb }
  | departed _ _ _ _ _ hroom =>
    rw [State.sendNew_ltx]
    exact h.takeIn hroom _
  | issued _ _ _ _ _ _ _ _ hroom => exact h.takeIn hroom _
  | nakOpened | delivered | ackDue | ackDelayExpired | longRetried | nkSent | akSent | aligned | alignIndexed
    | retryControls | wrapFlagCleared => exact { h with }
  | _ => exact h

/-! ### Outside ACTIVE and outside a session -/

/-- No pass, no replay timer and no due control frame (R116, R118). -/
def Ltx.Quiet (x : Ltx) (z : Lrx) : Prop :=
  x.pass = none ∧ x.replayTimer = none ∧ x.akDue = false ∧ x.nkDue = none ∧ z.ackDelayTimer = none

theorem Move.keeps_windowStopped (m : Move c s t) (h : s.ltc.windowStopped) : t.ltc.windowStopped := by
  cases m with
  | functionReset | freshStart | retrained | attemptCounted | fellBack | aligned | exchanged => exact fun hl => nomatch hl
  | sessionEnded =>
    rw [State.freshStart_ltc]
    exact fun hl => nomatch hl
  | disabled =>
    rw [State.disable_ltc]
    exact fun hl => nomatch hl
  | failed =>
    rw [State.enterFailed_ltc]
    exact fun hl => nomatch hl
  | sessionStarted | sessionResumed => exact fun _ => rfl
  | _ => exact h

theorem Move.keeps_emptyBuffer (m : Move c s t) (hplaced : s.ltc.sessionPlaced)
    (h : s.ltc.partnerSession = 0 → s.ltx.buffer = []) : t.ltc.partnerSession = 0 → t.ltx.buffer = [] := by
  cases m with
  | functionReset => exact fun _ => rfl
  | freshStart down => exact fun _ => h (hplaced.1 down)
  | disabled | failed | sessionEnded =>
    simp only [State.disable_ltx, State.enterFailed_ltx, State.freshStart_ltx, State.teardown_ltx]
    exact fun _ => rfl
  | sessionStarted _ _ _ hn => exact fun hz => absurd hz hn
  | sessionResumed _ hstands => exact fun hz => absurd hz hstands
  | progressed _ hl | departed _ _ _ _ hl | issued _ _ _ _ _ _ _ hl => exact fun hz => absurd hz (hplaced.2 hl)
  | _ => exact h

theorem Move.keeps_quiet (m : Move c s t) (hwindow : s.ltc.windowStopped)
    (h : s.ltc.link ≠ .active → s.ltx.Quiet s.lrx) : t.ltc.link ≠ .active → t.ltx.Quiet t.lrx := by
  cases m with
  | functionReset | retrained => exact fun _ => ⟨rfl, rfl, rfl, rfl, rfl⟩
  | disabled | failed | sessionEnded =>
    simp only [State.disable_ltx, State.enterFailed_ltx, State.freshStart_ltx, State.teardown_ltx, State.disable_lrx,
      State.enterFailed_lrx, State.freshStart_lrx, State.teardown_lrx]
    exact fun _ => ⟨rfl, rfl, rfl, rfl, rfl⟩
  | freshStart down => exact fun _ => h (by rcases down with hl | hl <;> (rw [hl]; decide))
  | attemptCounted running => exact fun _ => h fun hl => running (hwindow hl)
  | fellBack hl | aligned _ _ hl | exchanged hl => exact fun _ => h (by rw [hl]; decide)
  | sessionStarted | sessionResumed => exact fun hne => absurd rfl hne
  | nakOpened hl | delivered hl | ackDue hl | progressed _ hl | passMoved _ hl | replayTimerStarted hl
    | departed _ _ _ _ hl | issued _ _ _ _ _ _ _ hl => exact fun hne => absurd hl hne
  | ackDelayExpired running => exact fun hne => absurd (h hne).2.2.2.2 running
  | passStarted hl =>
    intro hne
    rcases hl with hl | running
    · exact absurd hl hne
    · exact absurd (h hne).2.1 running
  | replayTimerStopped =>
    intro hne
    obtain ⟨hpass, htimer, hak, hnk, hdelay⟩ := h hne
    exact ⟨hpass, rfl, hak, hnk, hdelay⟩
  | nkSent =>
    intro hne
    obtain ⟨hpass, htimer, hak, hnk, hdelay⟩ := h hne
    exact ⟨hpass, htimer, hak, rfl, hdelay⟩
  | akSent =>
    intro hne
    obtain ⟨hpass, htimer, hak, hnk, hdelay⟩ := h hne
    exact ⟨hpass, htimer, rfl, hnk, rfl⟩
  | passEnded =>
    intro hne
    obtain ⟨hpass, htimer, hak, hnk, hdelay⟩ := h hne
    exact ⟨rfl, htimer, hak, hnk, hdelay⟩
  | _ => exact h

/-! ### The invariant -/

theorem State.replayKept_iff :
    s.replayKept ↔ s.ltc.sessionPlaced ∧ s.ltc.windowStopped ∧ s.ltx.ReplayKept ∧
      (s.ltc.partnerSession = 0 → s.ltx.buffer = []) ∧ (s.ltc.link ≠ .active → s.ltx.Quiet s.lrx) :=
  ⟨fun ⟨hplaced, hwindow, hnum, hpass, hnone, htimer, hquiet⟩ => ⟨hplaced, hwindow, ⟨hnum, hpass, htimer⟩, hnone, hquiet⟩,
    fun ⟨hplaced, hwindow, ⟨hnum, hpass, htimer⟩, hnone, hquiet⟩ =>
      ⟨hplaced, hwindow, hnum, hpass, hnone, htimer, hquiet⟩⟩

theorem Move.keeps_replayKept (m : Move c s t) (h : s.replayKept) : t.replayKept := by
  obtain ⟨hplaced, hwindow, hreplay, hnone, hquiet⟩ := State.replayKept_iff.mp h
  exact State.replayKept_iff.mpr ⟨m.keeps_sessionPlaced hplaced, m.keeps_windowStopped hwindow,
    m.keeps_replay hnone hreplay, m.keeps_emptyBuffer hplaced hnone, m.keeps_quiet hwindow hquiet⟩

theorem tickTimer_of_none {x : Option Nat} (h : x = none) : tickTimer x = none := by
  rw [h]
  rfl

theorem Passes.keeps_replayKept (p : Passes s t) (h : s.replayKept) : t.replayKept := by
  cases p with
  | ticked =>
    obtain ⟨hplaced, hwindow, hreplay, hnone, hquiet⟩ := State.replayKept_iff.mp h
    refine State.replayKept_iff.mpr ⟨hplaced, fun hl => tickTimer_of_none (hwindow hl), ?_, hnone, fun hne => ?_⟩
    · exact { hreplay with timer := fun running => hreplay.timer (tickTimer_ne_none.mp running) }
    · obtain ⟨hpass, htimer, hak, hnk, hdelay⟩ := hquiet hne
      exact ⟨hpass, tickTimer_of_none htimer, hak, hnk, tickTimer_of_none hdelay⟩
  | _ => exact h

/-- Settles O57: frames leave the buffer at its old end and come in at its new end under the next number, and a change
that leaves ACTIVE or ends the session clears what belongs to it. -/
theorem stepKeepsReplayBuffer : Obligations.StepKeepsReplayBuffer :=
  step_keeps (P := State.replayKept) (ok := fun _ => True) (fun _ h => ⟨trivial, h⟩)
    (fun _ => State.reset_replayKept) id (fun _ m => m.keeps_replayKept) Passes.keeps_replayKept

end Sys2Proof.Machine
end

section
/-! SUPPORT. The lengths of data, kept by every change, and the receipt of frames: a frame's length shows in its first bytes
(R89), so the receiver stops at the byte that ends the frame. With the obligation that steps keep the lengths (O60). -/

namespace Sys2Proof.Machine

variable {c : Instr} {s t : State} {t₀ t₁ : Hrt}

/-! ### Data of held entries -/

/-- The data of every entry have its size. -/
def Hrt.DataFits (t : Hrt) : Prop := ∀ e : Fin 16, ∀ h ∈ t.entries[e], h.dataFits

theorem Hrt.DataFits.of_map {f : Held → Held} (h : t₀.DataFits) (hf : ∀ g : Held, g.dataFits → (f g).dataFits)
    (hu : ∀ i : Fin 16, t₁.entries[i] = t₀.entries[i].map f) : t₁.DataFits := fun e g hg => by
  obtain ⟨k, hk, rfl⟩ := mem_entries_of_map (hu e) hg
  exact hf k (h e k hk)

theorem Hrt.DataFits.setHeld {f : Held → Held} (h : t₀.DataFits) (hf : ∀ g : Held, g.dataFits → (f g).dataFits)
    (e : Fin 16) : (t₀.setHeld e f).DataFits := fun i g hg => by
  rw [Hrt.setHeld_entries] at hg
  split at hg
  · obtain ⟨k, hk, rfl⟩ := Option.map_eq_some_iff.mp hg
    exact hf k (h i k hk)
  · exact h i g hg

theorem Held.dataFits_moveUp {gone h : Held} (hd : h.dataFits) : (gone.moveUp h).dataFits := by
  unfold Held.moveUp
  split <;> exact hd

theorem Hrt.DataFits.free {e : Fin 16} {gone : Held} (h : t₀.DataFits) (he : t₀.entries[e] = some gone) :
    (t₀.free e).DataFits := fun i g hg => by
  obtain ⟨-, k, hk, rfl⟩ := Hrt.mem_free he hg
  exact Held.dataFits_moveUp (h i k hk)

theorem Hrt.DataFits.create {x : Transfer} (h : t₀.DataFits) (hdata : x.direction = .write → x.data.length = x.size)
    (e : Fin 16) (hit : Hit) (n : Nat) : (t₀.create e x hit n).DataFits := fun i g hg => by
  rw [Hrt.create_entries] at hg
  split at hg
  · cases hg
    refine ⟨?_, rfl⟩
    cases hd : x.direction with
    | read => simp [Transfer.newEntry, Transfer.heldKind, hd]
    | write => simp [Transfer.newEntry, Transfer.heldKind, hd, hdata hd]
  · exact h i g hg

theorem Hrt.DataFits.of_empty (hnone : ∀ i : Fin 16, t₀.entries[i] = none) : t₀.DataFits := fun i g hg => by
  rw [hnone i] at hg
  cases hg

/-- An outcome that is still open, or failed, says nothing of data. -/
theorem Held.dataFits.of_not_ready {h : Held} {p : Phase} (hd : h.dataFits) (hp : ∀ d n, p ≠ .ready d n) :
    ({ h with phase := p } : Held).dataFits := by
  refine ⟨hd.1, ?_⟩
  cases p with
  | ready d n => exact absurd rfl (hp d n)
  | _ => rfl

theorem Held.dataFits_fail {h : Held} (cause : FailCause) (n : Nat) (hd : h.dataFits) : (h.fail cause n).dataFits :=
  hd.of_not_ready fun _ _ heq => nomatch heq

theorem Held.dataFits_issued {h : Held} (tag : Fin 32) (n : Nat) (hd : h.dataFits) :
    ({ h with phase := .issued tag n } : Held).dataFits :=
  hd.of_not_ready fun _ _ heq => nomatch heq

theorem Held.dataFits_tick {h : Held} (hd : h.dataFits) : h.tick.dataFits := by
  unfold Held.tick
  cases hp : h.phase with
  | queued => exact hd
  | ready d n =>
    obtain ⟨hkind, hready⟩ := hd
    refine ⟨hkind, ?_⟩
    cases d <;> cases hk : h.kind <;> simp_all only
  | issued | failed => exact hd.of_not_ready fun _ _ heq => nomatch heq

theorem Held.dataFits_afterDeparture {h : Held} (hd : h.dataFits) : h.afterDeparture.dataFits := by
  unfold Held.afterDeparture
  split
  · exact hd.of_not_ready fun _ _ heq => nomatch heq
  · exact hd

theorem Held.dataFits_afterTeardown {h : Held} (n : Nat) (hd : h.dataFits) : (h.afterTeardown n).dataFits := by
  unfold Held.afterTeardown
  split
  · exact hd.of_not_ready fun _ _ heq => nomatch heq
  · exact hd

/-- A completion without a failure cause has status OK and the expected data length (R20). -/
theorem Held.completionCause_eq_none {h : Held} {status : CpStatus} {data : List Byte}
    (hc : h.completionCause status data = none) : status = .ok ∧ data.length = h.expectedLength .ok := by
  unfold Held.completionCause at hc
  split at hc
  · cases hc
  · next hlen =>
    cases status with
    | ok => exact ⟨rfl, Classical.not_not.mp hlen⟩
    | _ => cases hc

theorem Held.dataFits_completed {h : Held} (status : CpStatus) (data : List Byte) (n : Nat) (hd : h.dataFits) :
    (h.completed status data n).dataFits := by
  unfold Held.completed
  split
  · next hc =>
    obtain ⟨-, hlen⟩ := Held.completionCause_eq_none hc
    refine ⟨hd.1, ?_⟩
    cases hk : h.kind with
    | read => simpa [HeldKind.outcomeData, Held.expectedLength, hk] using hlen
    | hwrite => rfl
  · exact hd.of_not_ready fun _ _ heq => nomatch heq

/-! ### The changes -/

theorem Move.keeps_heldData (m : Move c s t) (hwf : c.wf = true) (h : s.hrt.DataFits) : t.hrt.DataFits := by
  cases m with
  | functionReset => exact .of_empty fun i => by simp [Hrt.functionReset]
  | disabled | failed | sessionEnded =>
    simp only [State.disable_hrt, State.enterFailed_hrt, State.freshStart_hrt, State.teardown_hrt]
    exact h.of_map (fun _ => Held.dataFits_afterTeardown _) s.hrt.teardown_entries
  | created x hit e _ _ _ _ _ hdata => exact h.create (hdata hwf) e hit _
  | collected _ _ he | discarded _ _ he => exact h.free he
  | quarantined e => exact h.setHeld (fun _ => Held.dataFits_fail _ _) e
  | completed e _ _ status data => exact h.setHeld (fun _ => Held.dataFits_completed status data _) e
  | departed =>
    rw [State.sendNew_hrt]
    exact h.of_map (fun _ => Held.dataFits_afterDeparture) s.hrt.departure_entries
  | issued _ tag e => exact h.setHeld (fun _ => Held.dataFits_issued tag _) e
  | _ => exact h

theorem Move.keeps_postedData (m : Move c s t) (hwf : c.wf = true) (h : ∀ w ∈ s.pwq.queue, w.data.length = w.size) :
    ∀ w ∈ t.pwq.queue, w.data.length = w.size := by
  cases m with
  | functionReset => exact fun _ hw => nomatch hw
  | disabled | failed | sessionEnded =>
    simp only [State.disable_pwq, State.enterFailed_pwq, State.freshStart_pwq, State.teardown_pwq]
    exact fun _ hw => nomatch hw
  | posted w _ _ hdata => exact List.forall_mem_append.mpr ⟨h, List.forall_mem_singleton.mpr (hdata hwf)⟩
  | departed w rest hq =>
    rw [State.sendNew_pwq]
    exact fun v hv => h v (hq ▸ List.mem_cons_of_mem w hv)
  | _ => exact h

theorem Move.framing (m : Move c s t) : t.lrx.framing = s.lrx.framing ∨ t.lrx.framing = none := by
  cases m with
  | functionReset => exact .inr rfl
  | disabled | failed | sessionEnded =>
    simp only [State.disable_lrx, State.enterFailed_lrx, State.freshStart_lrx, State.teardown_lrx]
    exact .inl rfl
  | _ => exact .inl rfl

/-! ### The receipt of a frame -/

theorem byteAt_append {bytes : List Byte} {i : Nat} (h : i < bytes.length) (more : List Byte) :
    byteAt (bytes ++ more) i = byteAt bytes i := by
  rw [byteAt, byteAt, List.getD_eq_getElem?_getD, List.getD_eq_getElem?_getD, List.getElem?_append_left h]

theorem kindCode_append {bytes : List Byte} (h : bytes ≠ []) (more : List Byte) :
    kindCode (bytes ++ more) = kindCode bytes := by
  rw [kindCode, kindCode, byteAt_append (List.length_pos_iff.mpr h)]

/-- Once the bytes decide the length of a frame, no byte after them changes it. -/
theorem extent_append {bytes : List Byte} (h : extent bytes ≠ .undecided) (more : List Byte) :
    extent (bytes ++ more) = extent bytes := by
  by_cases hnil : bytes = []
  · exact absurd (hnil ▸ rfl) h
  · have hlen : bytes.length ≠ 0 := fun hz => hnil (List.length_eq_zero_iff.mp hz)
    have hmore : (bytes ++ more).length ≠ 0 := by rw [List.length_append]; omega
    unfold extent at h ⊢
    rw [if_neg hlen] at h
    rw [if_neg hlen, if_neg hmore, kindCode_append hnil]
    split at h
    case h_1 | h_3 | h_4 =>
      have long := fun hshort => h (if_pos hshort)
      have longer : bytes.length ≤ (bytes ++ more).length := (List.prefix_append bytes more).length_le
      rw [if_neg long, if_neg fun hshort => long (Nat.le_trans longer hshort), byteAt_append (Nat.lt_of_not_le long)]
    all_goals rfl

/-- The frame being received is not whole: its bytes so far do not decide its length, or decide a greater one. -/
theorem framingOpen_iff {x : Lrx} :
    x.framingOpen ↔ ∀ bytes ∈ x.framing, extent bytes = .undecided ∨ ∃ n, extent bytes = .length n ∧ bytes.length < n := by
  refine forall₂_congr fun bytes _ => ?_
  cases extent bytes <;> simp

theorem extent_of_completion {bytes : List Byte} (hnil : bytes ≠ []) (hkind : (kindCode bytes).toNat = 4) :
    extent bytes =
      if bytes.length ≤ 3 then .undecided
      else if 64 < (byteAt bytes 3).toNat then .lost
      else .length ((byteAt bytes 3).toNat + 6) := by
  rw [extent, if_neg fun hz => hnil (List.length_eq_zero_iff.mp hz), hkind]
  rfl

/-- A completion that is whole has at most 70 bytes: 64 of data, 4 before them and the CRC (R93). -/
theorem length_le_of_completion {bytes : List Byte} {b : Byte}
    (hopen : extent bytes = .undecided ∨ ∃ n, extent bytes = .length n ∧ bytes.length < n)
    (hkind : (kindCode (bytes ++ [b])).toNat = 4) :
    (bytes ++ [b]).length ≤ 70 := by
  by_cases hshort : bytes.length ≤ 3
  · simp only [List.length_append, List.length_singleton]
    omega
  · have hnil : bytes ≠ [] := fun hz => hshort (by rw [hz]; exact Nat.zero_le 3)
    rw [kindCode_append hnil] at hkind
    have here := extent_of_completion hnil hkind
    rw [if_neg hshort] at here
    rcases hopen with undecided | ⟨m, hm, hlt⟩
    · rw [undecided] at here
      split at here <;> cases here
    · rw [hm] at here
      split at here
      · cases here
      · cases here
        simp only [List.length_append, List.length_singleton]
        omega

theorem commandOf_wf {bytes : List Byte} (h : (kindCode bytes).toNat = 4 → bytes.length ≤ 70) :
    (commandOf bytes).wf = true := by
  unfold commandOf
  split
  · rfl
  · split
    case h_1 hkind =>
      split
      · refine decide_eq_true ?_
        simp only [bodyOf, List.length_drop, List.length_take]
        have := h hkind
        omega
      · rfl
    case h_6 => split <;> rfl
    all_goals rfl

/-- The receiver keeps its framing state open, and gives well-formed commands. -/
theorem receiveSymbol_spec {x : Lrx} (hopen : x.framingOpen) (b : LineSymbol) :
    ({ x with framing := (receiveSymbol x.framing b).1 } : Lrx).framingOpen ∧
      ∀ c ∈ (receiveSymbol x.framing b).2, c.wf = true := by
  cases b with
  | start =>
    refine ⟨framingOpen_iff.mpr fun bytes hb => .inl ?_, fun c hc => ?_⟩
    · cases hb
      rfl
    · simp only [receiveSymbol] at hc
      split at hc <;> cases hc
      rfl
  | idleFill => exact ⟨hopen, fun c hc => nomatch hc⟩
  | byte b =>
    cases hf : x.framing with
    | none => exact ⟨fun bytes hb => (nomatch hb), fun c hc => nomatch hc⟩
    | some bytes =>
      have hopen := framingOpen_iff.mp hopen bytes hf
      simp only [receiveSymbol]
      split
      · next hu => exact ⟨framingOpen_iff.mpr fun l hl => .inl (Option.some.inj hl ▸ hu), fun c hc => nomatch hc⟩
      · exact ⟨fun l hl => (nomatch hl), fun c hc => Option.some.inj hc ▸ rfl⟩
      · next n hn =>
        split
        · next hlt =>
          exact ⟨framingOpen_iff.mpr fun l hl => .inr ⟨n, Option.some.inj hl ▸ ⟨hn, hlt⟩⟩, fun c hc => nomatch hc⟩
        · exact ⟨fun l hl => (nomatch hl), fun c hc =>
            Option.some.inj hc ▸ commandOf_wf (length_le_of_completion hopen)⟩

/-! ### The invariant -/

theorem Move.keeps_dataFits (hwf : c.wf = true) (m : Move c s t) (h : s.dataFits) : t.dataFits := by
  obtain ⟨hpending, hframing, hheld, hposted⟩ := h
  refine ⟨by rw [m.frame.1]; exact hpending, ?_, m.keeps_heldData hwf hheld, m.keeps_postedData hwf hposted⟩
  rcases m.framing with same | none
  · rw [Lrx.framingOpen, same]
    exact hframing
  · rw [Lrx.framingOpen, none]
    exact fun _ hb => nomatch hb

theorem entryExpiry_wf {e : Fin 16} {h : Option Held} (hc : c ∈ entryExpiry e h) : c.wf = true := by
  unfold entryExpiry at hc
  split at hc
  · cases hc
  · split at hc
    · cases hc
    all_goals
      split at hc <;> cases hc
      rfl

/-- The expiries of timers are well-formed. -/
theorem State.expiries_wf (s : State) : ∀ c ∈ s.expiries, c.wf = true := by
  have one : ∀ {p : Prop} [Decidable p] {d : Instr}, d.wf = true → ∀ c ∈ (if p then [d] else []), c.wf = true := by
    intro p _ d hd c hc
    split at hc
    · exact List.mem_singleton.mp hc ▸ hd
    · cases hc
  simp only [State.expiries, List.forall_mem_append]
  refine ⟨⟨⟨⟨fun c hc => ?_, one rfl⟩, one rfl⟩, one rfl⟩, one rfl⟩
  obtain ⟨e, -, he⟩ := List.mem_filterMap.mp hc
  exact entryExpiry_wf he

theorem Passes.keeps_dataFits (p : Passes s t) (h : s.dataFits) : t.dataFits := by
  obtain ⟨hpending, hframing, hheld, hposted⟩ := id h
  cases p with
  | waited | clocked => exact h
  | ticked _ _ events _ _ hevents =>
    refine ⟨List.forall_mem_append.mpr ⟨hpending, fun c hc => State.expiries_wf _ c (hevents.subset hc)⟩, hframing, ?_,
      hposted⟩
    exact Hrt.DataFits.of_map hheld (fun _ => Held.dataFits_tick) s.hrt.tick_entries
  | taken _ x =>
    obtain ⟨hopen, hcommands⟩ := receiveSymbol_spec hframing x
    exact ⟨List.forall_mem_append.mpr ⟨hpending, fun c hc => hcommands c (Option.mem_toList.mp hc)⟩, hopen, hheld, hposted⟩

/-- Settles O60: the commands that wait are well-formed, so what they bring to the table and to the queue has its length. -/
theorem stepKeepsDataLengths : Obligations.StepKeepsDataLengths := by
  refine step_keeps (P := State.dataFits) (ok := fun c => c.wf = true) (fun hp h => ?_) (fun h => ?_) id
    (fun hwf m => m.keeps_dataFits hwf) Passes.keeps_dataFits
  · obtain ⟨hpending, rest⟩ := h
    rw [hp] at hpending
    obtain ⟨hfront, hback⟩ := List.forall_mem_cons.mp hpending
    exact ⟨hfront, hback, rest⟩
  · obtain ⟨-, rest⟩ := State.reset_dataFits
    exact ⟨h.1, rest⟩

end Sys2Proof.Machine
end

section
/-! SUPPORT. The machine: the front command, the pin and the two resets (O1, O4, O5, O6). -/

namespace Sys2Proof.Machine

/-! ### The front command and the chip reset -/

/-- Settles O1. -/
theorem stepRunsTheFrontCommand : Obligations.StepRunsTheFrontCommand := fun _ _ _ => rfl

/-- Settles O5: the two rows of the pin are written out. -/
theorem chipResetGivesResetValues : Obligations.ChipResetGivesResetValues := fun _ => ⟨rfl, rfl⟩

/-! ### RESET_N low -/

/-- Settles O4: every row but those of the pin is a host transfer, a taken write or acts while RESET_N is high only. -/
theorem lowResetPinStopsEveryCommand : Obligations.LowResetPinStopsEveryCommand := by
  intro s low
  have transfer : ∀ f : State → State, s.hostTransfer f = .next { s with answer := some .fault } :=
    State.hostTransfer_low low
  have write : ∀ f : State → State, s.takenWrite f = .next { s with answer := some .fault } := State.takenWrite_low low
  have ignored : ∀ f : State → State, s.powered f = .next s := State.powered_low low
  refine ⟨fun _ _ _ _ _ => transfer _, fun _ _ _ _ => transfer _, fun _ => write _, fun _ _ _ => write _,
    fun m => ?remote, fun m => ?cause, fun c hc => ?writes, fun _ _ _ _ => ignored _, fun _ _ _ => ignored _,
    fun _ => ⟨ignored _, ignored _⟩, fun _ => ⟨ignored _, ignored _⟩, fun _ => ignored _, fun _ _ _ _ => ignored _,
    fun e => ⟨?completion, ?discard⟩, fun c hc => ?others⟩
  case remote => rw [exec_clearRemoteSource, execClearRemoteSource, write]
  case cause => rw [exec_clearLocalCause, execClearLocalCause, write]
  case completion => rw [exec_completionTimerExpiry, execCompletionTimerExpiry, ignored]
  case discard => rw [exec_discardTimerExpiry, execDiscardTimerExpiry, ignored]
  case writes =>
    simp only [List.mem_cons, List.not_mem_nil, or_false] at hc
    rcases hc with rfl | rfl | rfl | rfl | rfl | rfl | rfl
    all_goals
      simp only [exec_functionReset, execFunctionReset, exec_enable, execEnable, exec_restart, execRestart, exec_retrain,
        execRetrain, exec_disable, execDisable, exec_clearWrapFlag, execClearWrapFlag, exec_faultRecordClear,
        execFaultRecordClear,
        write]
  case others =>
    simp only [List.mem_cons, List.not_mem_nil, or_false] at hc
    rcases hc with rfl | rfl | rfl | rfl | rfl | rfl | rfl | rfl | rfl | rfl | rfl | rfl | rfl
    all_goals
      simp only [exec_corruptFrameReceived, execCorruptFrameReceived, exec_rejectedFrameReceived, execRejectedFrameReceived,
        exec_replayTimerExpiry, execReplayTimerExpiry, exec_ackDelayTimerExpiry, execAckDelayTimerExpiry,
        exec_seekWindowExpiry, execSeekWindowExpiry, exec_alignCountExpiry, execAlignCountExpiry, exec_newFrameSlot,
        execNewFrameSlot, exec_sendNk, execSendNk, exec_sendAk, execSendAk, exec_replayPassResend,
        execReplayPassResend, exec_sendSk, execSendSk, exec_sendAl, execSendAl, exec_sendPm, execSendPm,
        ignored]

/-! ### Function reset -/

/-- With no cause pending both lines are released. -/
theorem Evu.functionReset_eq (e : Evu) :
    e.functionReset =
      { e with
        remotePending := 0, remoteRepeat := Vector.replicate 16 0, localPending := 0, fault := none, laterCount := 0
        intA := false, intB := false } := by
  simp [Evu.functionReset, Evu.drive, Evu.onLineA, Evu.onLineB]

/-- Settles O6: function reset is a taken write, and each block's part is written out. -/
theorem functionResetKeepsConfiguration : Obligations.FunctionResetKeepsConfiguration := by
  intro s high
  rw [exec_functionReset, execFunctionReset, State.takenWrite_high high, State.functionReset, Evu.functionReset_eq]
  rfl

end Sys2Proof.Machine
end

section
/-! SUPPORT. A tick of the timebase, and the expiries that it brings (O2). -/

namespace Sys2Proof.Machine

variable {c : Instr} {s : State}

/-! ### Expiries -/

/-- A timer that has run out after it counted had one tick left, or none. -/
theorem tickTimer_eq_some_zero {x : Option Nat} : tickTimer x = some 0 ↔ ∃ n ≤ 1, x = some n := by
  cases x with
  | none => simp [tickTimer]
  | some k => simp [tickTimer, Nat.sub_eq_zero_iff_le]

theorem mem_entryExpiry {e : Fin 16} {x : Option Held} :
    c ∈ entryExpiry e x ↔
      ∃ h ∈ x,
        (∃ tag, h.phase = .issued tag 0 ∧ c = .completionTimerExpiry e) ∨
        (∃ d, h.phase = .ready d 0 ∧ c = .discardTimerExpiry e) ∨
        (∃ f, h.phase = .failed f 0 ∧ c = .discardTimerExpiry e) := by
  cases x with
  | none => simp [entryExpiry]
  | some h =>
    cases hp : h.phase with
    | queued => simp [entryExpiry, hp]
    | issued tag n | ready d n | failed f n => by_cases hn : n = 0 <;> simp [entryExpiry, hp, hn, eq_comm]

/-- An expiry of an entry's timer names the entry. -/
theorem eq_of_mem_entryExpiry {e : Fin 16} {x : Option Held} (hc : c ∈ entryExpiry e x) :
    c = .completionTimerExpiry e ∨ c = .discardTimerExpiry e := by
  obtain ⟨_, -, hcase⟩ := mem_entryExpiry.mp hc
  rcases hcase with ⟨_, -, h⟩ | ⟨_, -, h⟩ | ⟨_, -, h⟩
  · exact .inl h
  · exact .inr h
  · exact .inr h

theorem entryExpiry_inj {e f : Fin 16} {x y : Option Held} (hx : c ∈ entryExpiry e x) (hy : c ∈ entryExpiry f y) :
    e = f := by
  rcases eq_of_mem_entryExpiry hx with rfl | rfl <;> rcases eq_of_mem_entryExpiry hy with h | h <;> cases h <;> rfl

theorem exists_le_one_eq {n : Nat} {p : Prop} : (∃ m, m ≤ 1 ∧ n = m ∧ p) ↔ n ≤ 1 ∧ p :=
  ⟨fun ⟨_, hm, hn, hp⟩ => ⟨hn ▸ hm, hp⟩, fun ⟨hn, hp⟩ => ⟨n, hn, rfl, hp⟩⟩

/-- The entry's expiry after it counted a tick. -/
theorem mem_entryExpiry_tick {e : Fin 16} {x : Option Held} :
    c ∈ entryExpiry e (x.map Held.tick) ↔
      ∃ h ∈ x, ∃ n ≤ 1,
        (∃ tag, h.phase = .issued tag n ∧ c = .completionTimerExpiry e) ∨
        (∃ d, h.phase = .ready d n ∧ c = .discardTimerExpiry e) ∨
        (∃ f, h.phase = .failed f n ∧ c = .discardTimerExpiry e) := by
  cases x with
  | none => simp [entryExpiry]
  | some h =>
    rw [mem_entryExpiry]
    cases hp : h.phase with
    | queued => simp [Held.tick, hp]
    | issued tag n | ready d n | failed f n =>
      simp [Held.tick, hp, Nat.sub_eq_zero_iff_le, and_comm, exists_le_one_eq]

theorem mem_ite_singleton {p : Prop} [Decidable p] {d : Instr} : c ∈ (if p then [d] else []) ↔ p ∧ c = d := by
  split <;> simp [*]

theorem State.mem_expiries :
    c ∈ s.expiries ↔
      (∃ e : Fin 16, c ∈ entryExpiry e s.hrt.entries[e]) ∨
      (s.ltx.replayTimer = some 0 ∧ c = .replayTimerExpiry) ∨
      (s.lrx.ackDelayTimer = some 0 ∧ c = .ackDelayTimerExpiry) ∨
      (s.ltc.seekTimer = some 0 ∧ c = .seekWindowExpiry) ∨
      (s.ltc.alignTimer = some 0 ∧ c = .alignCountExpiry) := by
  simp only [State.expiries, List.mem_append, List.mem_filterMap, mem_ite_singleton, List.mem_finRange, true_and,
    or_assoc, Option.mem_def]

theorem nodup_ite_singleton {p : Prop} [Decidable p] {d : Instr} : (if p then [d] else [] : List Instr).Nodup := by
  split
  · exact List.pairwise_singleton _ d
  · exact List.nodup_nil

theorem State.expiries_nodup (s : State) : s.expiries.Nodup := by
  have entries : ((List.finRange 16).filterMap fun e => entryExpiry e s.hrt.entries[e]).Nodup :=
    List.Pairwise.filterMap _ (fun _ _ hne _ hx _ hy heq => hne (entryExpiry_inj hx (heq ▸ hy)))
      (List.nodup_finRange 16)
  have named : ∀ c ∈ (List.finRange 16).filterMap fun e => entryExpiry e s.hrt.entries[e],
      c ≠ .replayTimerExpiry ∧ c ≠ .ackDelayTimerExpiry ∧ c ≠ .seekWindowExpiry ∧ c ≠ .alignCountExpiry := by
    intro c hc
    obtain ⟨e, -, he⟩ := List.mem_filterMap.mp hc
    rcases eq_of_mem_entryExpiry he with rfl | rfl <;> simp
  simp only [State.expiries, List.nodup_append, nodup_ite_singleton, entries, mem_ite_singleton, List.mem_append,
    true_and]
  grind

/-- The expiries of a tick, in the terms of the state before it. -/
theorem State.mem_expiries_countTick :
    c ∈ s.countTick.expiries ↔
      (∃ e : Fin 16, ∃ h ∈ s.hrt.entries[e], ∃ n ≤ 1,
        (∃ tag, h.phase = .issued tag n ∧ c = .completionTimerExpiry e) ∨
        (∃ d, h.phase = .ready d n ∧ c = .discardTimerExpiry e) ∨
        (∃ f, h.phase = .failed f n ∧ c = .discardTimerExpiry e)) ∨
      (∃ n ≤ 1, s.ltx.replayTimer = some n ∧ c = .replayTimerExpiry) ∨
      (∃ n ≤ 1, s.lrx.ackDelayTimer = some n ∧ c = .ackDelayTimerExpiry) ∨
      (∃ n ≤ 1, s.ltc.seekTimer = some n ∧ c = .seekWindowExpiry) ∨
      (∃ n ≤ 1, s.ltc.alignTimer = some n ∧ c = .alignCountExpiry) := by
  have timer : ∀ {x : Option Nat} {d : Instr}, tickTimer x = some 0 ∧ c = d ↔ ∃ n ≤ 1, x = some n ∧ c = d := by
    intro x d
    rw [tickTimer_eq_some_zero]
    exact ⟨fun ⟨⟨n, hn, hx⟩, hc⟩ => ⟨n, hn, hx, hc⟩, fun ⟨n, hn, hx, hc⟩ => ⟨⟨n, hn, hx⟩, hc⟩⟩
  rw [State.mem_expiries]
  simp only [State.countTick_hrt, State.countTick_ltx, State.countTick_lrx, State.countTick_ltc, Hrt.tick_entries,
    mem_entryExpiry_tick, timer]

/-! ### A host clock -/

theorem step_of_quiet_pair (hp : s.pending = []) (hline : s.rxLine = []) : step s = .next s.hostClock := by
  rw [step_of_empty hp, State.idle, hline]

/-- Settles O2: a clock counts, or ends a tick; then every timer counts, and the expiries come in a free order. -/
theorem tickCountsTimersAndQueuesExpiries : Obligations.TickCountsTimersAndQueuesExpiries := by
  intro s hp hline high
  refine ⟨fun hc => ?clock, fun hc => ?tick⟩
  case clock => rw [step_of_quiet_pair hp hline, State.hostClock_counts high hc]
  case tick =>
    have perm := takeInFreeOrder_perm s.countTick.expiries.length s.freeDraws s.countTick.expiries (Nat.le_refl _)
    refine ⟨_, (takeInFreeOrder s.countTick.expiries.length s.freeDraws s.countTick.expiries).2, ?_,
      perm.nodup_iff.mpr (State.expiries_nodup _), fun c => perm.mem_iff.trans State.mem_expiries_countTick⟩
    rw [step_of_quiet_pair hp hline, State.hostClock_ticks high hc, State.tick]
    simp only [State.countTick_pending, hp, List.nil_append]
    rfl

end Sys2Proof.Machine
end

section
/-! SUPPORT. The intake of an aperture transfer: the refusal of a bad size (O23), a return that collects its outcome (O25),
the answers that leave no trace (O26), and the faults after matching (O27). -/

namespace Sys2Proof.Machine

variable {s : State}

/-! ### A bad size -/

theorem sizeRule_eq_false_iff {o : BitVec 28} {n : Nat} :
    sizeRule o n = false ↔ n ∉ [1, 2, 4, 8, 16, 32, 64] ∨ o.toNat % n ≠ 0 := by
  simp only [sizeRule, Bool.and_eq_false_iff, decide_eq_false_iff_not, beq_eq_false_iff_ne, List.mem_cons,
    List.not_mem_nil, or_false]

theorem State.intake_of_badSize {x : Transfer} (h : sizeRule x.offset x.size = false) (s : State) :
    s.intake x = s.refuse
      { kind := .badSize, requester := some x.requester, offset := some x.offset, detail := some (detailOf x.size) } := by
  rw [State.intake, h]
  rfl

/-- Settles O23: step 1 refuses what the size rule does not allow. -/
theorem badSizeAnsweredFault : Obligations.BadSizeAnsweredFault := by
  intro s r d o n data hreset hbad
  rw [exec_apertureTransfer_high hreset, State.intake_of_badSize (sizeRule_eq_false_iff.mpr hbad)]
  rfl

/-! ### A return that collects its outcome -/

/-- An entry becomes FREE, and its requester's record changes further. -/
theorem Hrt.free_setRequester {t : Hrt} {e : Fin 16} {gone : Held} (he : t.entries[e] = some gone)
    (f : Requester → Requester) :
    (t.free e).setRequester gone.requester f =
      { t with
        entries := Vector.ofFn fun i : Fin 16 => if i = e then none else t.entries[i].map gone.moveUp
        requesters := t.requesters.set gone.requester
          (f { t.requesters[gone.requester] with heldCount := t.requesters[gone.requester].heldCount - 1 }) } := by
  simp [Hrt.free, he, Hrt.setRequester]

theorem State.returnTo_of_ready {x : Transfer} {h : Held} {d : Option (List Byte)} {k : Nat}
    (hm : mismatch x h = false) (hp : h.phase = .ready d k) (e : Fin 16) (s : State) :
    s.returnTo x e h = { s with hrt := s.hrt.collect e h.requester }.answered (.done (Held.answerData d)) := by
  simp [State.returnTo, hm, hp]

theorem State.returnTo_of_failed {x : Transfer} {h : Held} {f : FailCause} {k : Nat}
    (hm : mismatch x h = false) (hp : h.phase = .failed f k) (e : Fin 16) (s : State) :
    s.returnTo x e h = { s with hrt := s.hrt.collect e h.requester }.answered .fault := by
  simp [State.returnTo, hm, hp]

/-- Settles O25: the phase of the entry gives the answer, and its collection the table. -/
theorem returnCollectsOutcome : Obligations.ReturnCollectsOutcome := by
  intro s r d o n data e h a hreset hsize hd he hk hkind hphase
  have hm : mismatch { requester := r, direction := d, offset := o, size := n, data := data } h = false :=
    mismatch_eq_false_iff.mpr hkind
  obtain rfl : h.requester = r := congrArg Key.requester hk
  have collected : s.returnTo { requester := h.requester, direction := d, offset := o, size := n, data := data } e h =
      { s with hrt := s.hrt.collect e h.requester }.answered a := by
    rcases hphase with ⟨read, k, hp, rfl⟩ | ⟨k, hp, rfl⟩ | ⟨f, k, hp, rfl⟩
    · exact State.returnTo_of_ready hm hp e s
    · exact State.returnTo_of_ready hm hp e s
    · exact State.returnTo_of_failed hm hp e s
  calc exec (.apertureTransfer h.requester d o n data) s
    _ = .next (s.returnTo _ e h) :=
      (exec_apertureTransfer_high hreset _ d o n data).trans (congrArg _ (State.intake_of_entry hsize hd he hk))
    _ = .next ({ s with hrt := s.hrt.collect e h.requester }.answered a) := congrArg _ collected
    _ = _ := by
      rw [Hrt.collect, Hrt.free_setRequester he]
      rfl

/-! ### Answers without a trace -/

theorem State.intake_of_hold {x : Transfer} (hsize : sizeRule x.offset x.size = true)
    (hn : ∀ f : Fin 16, ∀ h ∈ s.hrt.entries[f], h.key ≠ x.key) (hhold : s.reg.intakeHold = true) :
    s.intake x = s.answered .comeback := by
  simp [State.intake, hsize, Hrt.entryWithKey_none.mpr hn, hhold]

/-- A held request turned away at step 7 (R15). -/
theorem State.createEntry_of_full {x : Transfer}
    (hfull : (∀ e : Fin 16, s.hrt.entries[e] ≠ none) ∨ s.hrt.requesters[x.requester].atLimit = true) (hit : Hit) :
    s.createEntry x hit = s.answered .comeback := by
  unfold State.createEntry
  split
  · rfl
  · next hlimit =>
    rcases hfull with hnone | hat
    · rw [Hrt.lowestFree_eq_none.mpr hnone]
    · exact absurd hat hlimit

/-- A held request that the link and the requester's lapse let pass, turned away at step 7. -/
theorem State.intake_of_full {x : Transfer} {hit : Hit} (hsize : sizeRule x.offset x.size = true)
    (hn : ∀ f : Fin 16, ∀ h ∈ s.hrt.entries[f], h.key ≠ x.key) (hhold : s.reg.intakeHold = false)
    (hdec : decodeOffset s.win x.offset = some hit) (hheld : x.direction = .read ∨ hit.mode = .strict)
    (hup : s.linkDown = false) (hl : s.hrt.requesters[x.requester].lapsed = false)
    (hfull : (∀ e : Fin 16, s.hrt.entries[e] ≠ none) ∨ s.hrt.requesters[x.requester].atLimit = true) :
    s.intake x = s.answered .comeback :=
  calc s.intake x
    _ = s.decodeStep x := State.intake_of_no_entry hsize hn hhold
    _ = s.holdRequest x hit := State.decodeStep_of_held hdec hheld
    _ = s.createEntry x hit := State.holdRequest_of_up hup hl hit
    _ = s.answered .comeback := State.createEntry_of_full hfull hit

/-- Settles O26: intake hold answers at step 3, a full table or a held limit at step 7. -/
theorem transfersAnsweredComebackWithoutTrace : Obligations.TransfersAnsweredComebackWithoutTrace := by
  intro s r d o n data hreset hsize hn hcase
  refine (exec_apertureTransfer_high hreset r d o n data).trans (congrArg _ ?_)
  cases hhold : s.reg.intakeHold with
  | true => exact State.intake_of_hold hsize hn hhold
  | false =>
    rcases hcase with hset | ⟨⟨hit, hdec, hheld⟩, hoff, hfailed, hlapsed, hfull⟩
    · rw [hhold] at hset
      cases hset
    · exact State.intake_of_full hsize hn hhold hdec hheld (State.linkDown_eq_false_iff.mpr ⟨hoff, hfailed⟩) hlapsed
        (hfull.imp_right fun hlimit => decide_eq_true hlimit)

/-! ### Faults after matching -/

theorem State.decodeStep_of_miss {x : Transfer} (hdec : decodeOffset s.win x.offset = none) :
    s.decodeStep x = s.refuse { kind := .windowMiss, requester := some x.requester, offset := some x.offset } := by
  rw [State.decodeStep, hdec]

theorem State.decodeStep_of_readonly {x : Transfer} {hit : Hit} (hdec : decodeOffset s.win x.offset = some hit)
    (hwrite : x.direction = .write) (hmode : hit.mode = .readonly) :
    s.decodeStep x = s.refuse
      { kind := .readOnlyWrite, requester := some x.requester, offset := some x.offset, window := some hit.window } := by
  simp [State.decodeStep, hdec, hwrite, hmode]

theorem State.holdRequest_of_down (hdown : s.linkDown = true) (x : Transfer) (hit : Hit) :
    s.holdRequest x hit = s.refuse
      { kind := .linkDownRequest, requester := some x.requester, offset := some x.offset, window := some hit.window } := by
  rw [State.holdRequest, if_pos hdown]

theorem State.holdRequest_of_lapsed {x : Transfer} (hup : s.linkDown = false)
    (hl : s.hrt.requesters[x.requester].lapsed = true) (hit : Hit) :
    s.holdRequest x hit = s.refuse
      { kind := .lapsedRequest, requester := some x.requester, offset := some x.offset, window := some hit.window
        detail := some (detailOf s.hrt.requesters[x.requester].discardRun) } := by
  rw [State.holdRequest, if_neg (Bool.eq_false_iff.mp hup), if_pos hl]

/-- Settles O27: each fault is the refusal of the step that gives it. -/
theorem intakeFaultsAfterMatching : Obligations.IntakeFaultsAfterMatching := by
  intro s r d o n data hreset hsize hn hhold
  have toDecode : exec (.apertureTransfer r d o n data) s =
      .next (s.decodeStep { requester := r, direction := d, offset := o, size := n, data := data }) :=
    (exec_apertureTransfer_high hreset r d o n data).trans (congrArg _ (State.intake_of_no_entry hsize hn hhold))
  rw [toDecode]
  refine ⟨fun hmiss => ?miss, fun hit hdec => ⟨fun hwrite hmode => ?readonly, fun hheld => ?held⟩⟩
  case miss =>
    rw [State.decodeStep_of_miss]
    · rfl
    · exact hmiss
  case readonly =>
    rw [State.decodeStep_of_readonly]
    · rfl
    · exact hdec
    · exact hwrite
    · exact hmode
  case held =>
    rw [State.decodeStep_of_held]
    case hdec => exact hdec
    case hheld => exact hheld
    refine ⟨fun hdown => ?_, fun hoff hfailed hl => ?_⟩
    · rw [State.holdRequest_of_down (State.linkDown_eq_true_iff.mpr hdown)]
      rfl
    · rw [State.holdRequest_of_lapsed]
      · rfl
      · exact State.linkDown_eq_false_iff.mpr ⟨hoff, hfailed⟩
      · exact hl

end Sys2Proof.Machine
end

section
/-! SUPPORT. Register writes: the register at its offset, the fields of a written value, and the obligations about register
writes (O10 to O14). -/

namespace Sys2Proof.Machine

variable {s : State}

/-! ### The register at an offset -/

theorem Register.mem_allRegisters (r : Register) : r ∈ allRegisters := by
  cases r <;> simp [allRegisters, singleRegisters]

theorem registerAt_of_mem_allRegisters : ∀ r ∈ allRegisters, registerAt r.offset = some r := by decide +kernel

theorem registerAt_offset (r : Register) : registerAt r.offset = some r :=
  registerAt_of_mem_allRegisters r r.mem_allRegisters

theorem offset_of_registerAt {o : Nat} {r : Register} (h : registerAt o = some r) : r.offset = o := by
  rw [registerAt] at h
  simpa using List.find?_some h

theorem Register.offset_mod_four (r : Register) : r.offset % 4 = 0 := by
  cases r <;> simp only [Register.offset] <;> omega

theorem Register.offset_lt (r : Register) : r.offset < 4096 := by
  cases r <;> simp only [Register.offset] <;> omega

theorem Register.toNat_offset (r : Register) : (BitVec.ofNat 12 r.offset).toNat = r.offset :=
  Nat.mod_eq_of_lt r.offset_lt

/-- A write of 4 bytes at a register's offset is a taken write of that register, whatever the pin. -/
theorem exec_registerWrite_at (r : Register) (q : Fin 8) (v : Word) (s : State) :
    exec (.registerWrite q (BitVec.ofNat 12 r.offset) 4 v) s = s.takenWrite (State.writeRegister r v) := by
  have taken : accessTaken (BitVec.ofNat 12 r.offset) 4 = true :=
    accessTaken_of_aligned (by rw [r.toNat_offset]; exact r.offset_mod_four)
  have write : State.registerWrite (BitVec.ofNat 12 r.offset) 4 v =
      fun s => (s.writeRegister r v).answered (.done []) := by
    funext s
    rw [State.registerWrite, if_pos taken, r.toNat_offset, registerAt_offset]
  rw [exec_registerWrite, execRegisterWrite, write, State.takenWrite]

theorem exec_registerWrite_high (hreset : s.resetN = true) (r : Register) (q : Fin 8) (v : Word) :
    exec (.registerWrite q (BitVec.ofNat 12 r.offset) 4 v) s = .next ((s.writeRegister r v).answered (.done [])) :=
  (exec_registerWrite_at r q v s).trans (State.takenWrite_high hreset _)

/-! ### Written fields -/

theorem field_one (lo : Nat) (v : Word) : field lo 1 v = BitVec.ofBool (v.getLsbD lo) := by
  apply BitVec.eq_of_getLsbD_eq
  intro i hi
  obtain rfl : i = 0 := by omega
  simp [field]

theorem levelOf_ofBool : ∀ b : Bool, levelOf (BitVec.ofBool b) = if b then .b else .a := by decide

theorem policyOf_ofBool : ∀ b : Bool, policyOf (BitVec.ofBool b) = if b then .alternate else .writesFirst := by decide

theorem oneToSixteen_eq_clamp : ∀ x : BitVec 5, oneToSixteen x = BitVec.ofNat 5 (max 1 (min 16 x.toNat)) := by decide

theorem sizeCodeOf_eq_min : ∀ x : BitVec 5, sizeCodeOf x = Fin.ofNat 17 (min 16 x.toNat) := by decide

theorem gradeOfWritten_eq : ∀ x : BitVec 3,
    gradeOfWritten x =
      if x.toNat ≤ 1 then .g1 else if x.toNat = 2 then .g2 else if x.toNat = 3 then .g3 else .g4 := by decide

/-! ### Writes that act as a row of their own -/

theorem State.writeRegister_linkCommand (v : Word) (s : State) :
    s.writeRegister .linkCommand v = s.linkCommand (v.extractLsb' 0 4) := rfl

theorem State.writeRegister_requesterRecord (r : Fin 8) (v : Word) (s : State) :
    s.writeRegister (.requesterRecord r) v =
      s.writeRequester r (if v.getLsbD 0 then .b else .a) (v.extractLsb' 4 3) (v.getLsbD 8) := by
  rw [← levelOf_ofBool, ← field_one]
  rfl

theorem State.takenWrite_congr {f g : State → State} (h : ∀ s, f s = g s) (s : State) : s.takenWrite f = s.takenWrite g :=
  congrArg s.takenWrite (funext h)

/-- A write of the link command register is the row of its code. -/
theorem exec_registerWrite_linkCommand {v : Word} {code : BitVec 4} (h : v.extractLsb' 0 4 = code) (q : Fin 8)
    (s : State) : exec (.registerWrite q 0x040 4 v) s = s.takenWrite (State.linkCommand code) :=
  (exec_registerWrite_at .linkCommand q v s).trans
    (State.takenWrite_congr (fun s => by rw [State.writeRegister_linkCommand, h]) s)

theorem Requester.write_keep (level : Level) (limit : BitVec 3) (q : Requester) :
    q.write level limit false =
      { q with level := level, heldLimit := BitVec.ofNat 3 (max 1 (min 4 limit.toNat)) } := by
  rw [← oneToFour_eq_clamp]
  rfl

/-- Settles O14: a taken write of a register with its own row is that row's taken write. -/
theorem registerWriteActsAsItsCommandRow : Obligations.RegisterWriteActsAsItsCommandRow := by
  intro s q v
  have at_ := fun r => exec_registerWrite_at r q v s
  refine ⟨fun h => ?functionReset, fun h => exec_registerWrite_linkCommand h q s,
    fun h => exec_registerWrite_linkCommand h q s, fun h => exec_registerWrite_linkCommand h q s,
    fun h => exec_registerWrite_linkCommand h q s, fun _ => exec_registerWrite_linkCommand rfl q s, fun h => ?wrapFlag,
    at_ .remotePending, at_ .localPending, fun h => ?faultClear, fun r h => ?clearLapse,
    fun hreset => ⟨fun h => ?noReset, fun h => ?noCommand, fun h => ?noWrap, fun h => ?noClear, fun r h => ?record⟩⟩
  case functionReset =>
    refine (at_ .functionResetCommand).trans (State.takenWrite_congr (fun s => ?_) s)
    rw [State.writeRegister_functionResetCommand, if_pos h]
  case wrapFlag =>
    refine (at_ .replayCounter).trans (State.takenWrite_congr (fun s => ?_) s)
    rw [State.writeRegister_replayCounter, if_pos h]
  case faultClear =>
    rw [exec_faultRecordClear, execFaultRecordClear]
    refine (at_ .faultClear).trans (State.takenWrite_congr (fun s => ?_) s)
    rw [State.writeRegister_faultClear, if_pos h]
  case clearLapse =>
    refine (at_ (.requesterRecord r)).trans (State.takenWrite_congr (fun s => ?_) s)
    rw [State.writeRegister_requesterRecord, h]
  case noReset =>
    refine (exec_registerWrite_high hreset .functionResetCommand q v).trans ?_
    rw [State.writeRegister_functionResetCommand, h]
    rfl
  case noCommand =>
    refine (exec_registerWrite_high hreset .linkCommand q v).trans ?_
    rw [State.writeRegister_linkCommand, h]
    rfl
  case noWrap =>
    refine (exec_registerWrite_high hreset .replayCounter q v).trans ?_
    rw [State.writeRegister_replayCounter, h]
    rfl
  case noClear =>
    refine (exec_registerWrite_high hreset .faultClear q v).trans ?_
    rw [State.writeRegister_faultClear, h]
    rfl
  case record =>
    refine (exec_registerWrite_high hreset (.requesterRecord r) q v).trans ?_
    rw [State.writeRegister_requesterRecord, h, State.writeRequester, Hrt.setRequester, Requester.write_keep]
    rfl

/-! ### Control registers -/

/-- Settles O11: a taken write of each control register, with what is stored for a value out of range. -/
theorem controlRegisterWrites : Obligations.ControlRegisterWrites := by
  intro s q v hreset
  have written := fun r => exec_registerWrite_high hreset r q v
  refine ⟨(written .generalControl).trans ?general, written .tbdiv, written .discardInterval, written .lapseThreshold,
    written .completionTimeout, (written .grades).trans ?grades, written .trainingControls,
    (written .retryControls).trans ?retry, (written .ackControls).trans ?ack⟩
  case general =>
    rw [← policyOf_ofBool, ← field_one]
    rfl
  case grades =>
    rw [← gradeOfWritten_eq]
    rfl
  case retry =>
    rw [← oneToFour_eq_clamp]
    rfl
  case ack =>
    rw [← oneToSixteen_eq_clamp]
    rfl

/-- Settles O12: each of the four writes drives the lines after it stored the value. -/
theorem interruptControlWrites : Obligations.InterruptControlWrites := by
  intro s q v o e hreset hcase
  have written := fun r => exec_registerWrite_high hreset r q v
  rcases hcase with ⟨rfl, rfl⟩ | ⟨rfl, rfl⟩ | ⟨rfl, rfl⟩ | ⟨rfl, rfl⟩
  · exact written .remoteEnable
  · exact written .remoteRoute
  · exact written .localEnable
  · exact written .localRoute

/-! ### Writes that are ignored -/

/-- The registers without a written field, but for the entry views (Table 9-3). -/
def readOnlyRegisters : List Register :=
  [.identity, .quietStatus, .linkStatus, .transmitStatus, .receiveStatus, .sessions, .recordedOffers, .discardCount,
    .allowanceAndOffer, .freeTagsAndCredits, .quarantineSet, .occupancyAndLost, .identification, .repeatCounts0to7,
    .repeatCounts8to15, .faultKind, .faultPresence, .faultOrigin, .faultOffset, .faultRemoteLow, .faultRemoteHigh,
    .faultDetail]

theorem State.writeRegister_readOnly {r : Register} (hr : r ∈ readOnlyRegisters) (v : Word) (s : State) :
    s.writeRegister r v = s := by
  cases r with
  | identity | quietStatus | linkStatus | transmitStatus | receiveStatus | sessions | recordedOffers | discardCount
  | allowanceAndOffer | freeTagsAndCredits | quarantineSet | occupancyAndLost | identification | repeatCounts0to7
  | repeatCounts8to15 | faultKind | faultPresence | faultOrigin | faultOffset | faultRemoteLow | faultRemoteHigh
  | faultDetail => rfl
  | _ => simp [readOnlyRegisters] at hr

theorem readOnly_offsets :
    readOnlyRegisters.map (fun r => BitVec.ofNat 12 r.offset) =
      [0x000, 0x010, 0x044, 0x058, 0x064, 0x068, 0x06C, 0x12C, 0x180, 0x184, 0x188, 0x18C, 0x218, 0x220, 0x224, 0x280,
        0x284, 0x288, 0x28C, 0x290, 0x294, 0x298] := rfl

theorem exec_registerWrite_unassigned {o : BitVec 12} (hreset : s.resetN = true) (haligned : o.toNat % 4 = 0)
    (hnone : registerAt o.toNat = none) (q : Fin 8) (v : Word) :
    exec (.registerWrite q o 4 v) s = .next (s.answered (.done [])) := by
  rw [exec_registerWrite, execRegisterWrite, State.hostTransfer_high hreset, State.registerWrite,
    if_pos (accessTaken_of_aligned haligned), hnone]

/-- Settles O13: nothing is assigned at the offset, or what is assigned has no written field. -/
theorem readOnlyAndUnassignedWritesIgnored : Obligations.ReadOnlyAndUnassignedWritesIgnored := by
  intro s q v o hreset haligned hcase
  rcases hcase with hnone | ⟨e, ho⟩ | hmem
  · exact exec_registerWrite_unassigned hreset haligned hnone q v
  · obtain rfl : o = BitVec.ofNat 12 (Register.entryView e).offset := by
      apply BitVec.eq_of_toNat_eq
      rw [Register.toNat_offset, ho]
      rfl
    exact exec_registerWrite_high hreset (.entryView e) q v
  · rw [← readOnly_offsets] at hmem
    obtain ⟨r, hr, rfl⟩ := List.mem_map.mp hmem
    rw [exec_registerWrite_high hreset, State.writeRegister_readOnly hr]
    rfl

end Sys2Proof.Machine
end

section
/-! SUPPORT. The registers of a window record (O10). -/

namespace Sys2Proof.Machine

/-! ### A field shown where it was written -/

/-- The mask of the field of `w` bits whose lowest bit is `lo`. -/
def fieldMask (lo w : Nat) : Word := BitVec.ofNat 32 (2 ^ w - 1) <<< lo

theorem getLsbD_place {w : Nat} (lo : Nat) (x : BitVec w) (i : Nat) :
    (place lo x).getLsbD i = (decide (i < 32) && (decide (lo ≤ i) && x.getLsbD (i - lo))) := by
  rw [place, BitVec.getLsbD_shiftLeft, BitVec.getLsbD_setWidth]
  by_cases hi : i < 32
  · have : i - lo < 32 := by omega
    by_cases hlo : i < lo
    · simp [hi, hlo, Nat.not_le.mpr hlo]
    · simp [hi, hlo, this, Nat.not_lt.mp hlo]
  · simp [hi]

theorem getLsbD_fieldMask (lo w i : Nat) :
    (fieldMask lo w).getLsbD i = (decide (i < 32) && (decide (lo ≤ i) && decide (i - lo < w))) := by
  rw [fieldMask, BitVec.getLsbD_shiftLeft, BitVec.getLsbD_ofNat, Nat.testBit_two_pow_sub_one]
  by_cases hi : i < 32
  · have : i - lo < 32 := by omega
    by_cases hlo : i < lo
    · simp [hi, hlo, Nat.not_le.mpr hlo]
    · simp [hi, hlo, this, Nat.not_lt.mp hlo]
  · simp [hi]

/-- A written field shown at its own bits is the written value under the field's mask. -/
theorem place_field (lo w : Nat) (v : Word) : place lo (field lo w v) = v &&& fieldMask lo w := by
  apply BitVec.eq_of_getLsbD_eq
  intro i hi
  rw [getLsbD_place, BitVec.getLsbD_and, getLsbD_fieldMask, field, BitVec.getLsbD_extractLsb']
  by_cases hlo : lo ≤ i
  · rw [Nat.add_sub_cancel' hlo]
    simp [hi, hlo, Bool.and_comm]
  · simp [hlo]

theorem modeCode_modeOf : ∀ x : BitVec 2, modeCode (modeOf x) = x := by decide

/-! ### A window record -/

variable {s : State}

theorem State.setWindow_win_same (w : Fin 8) (f : Window → Window) (s : State) :
    (s.setWindow w f).win[w] = f s.win[w] := by
  rw [State.setWindow_win, getElem_set_fin, if_pos rfl]

theorem State.readRegister_windowBase_write (w : Fin 8) (v : Word) (s : State) :
    (s.writeRegister (.windowBase w) v).readRegister (.windowBase w) = v &&& 0x0FFFFFFF := by
  have written : ((s.writeRegister (.windowBase w) v).win[w]).base = field 0 28 v :=
    congrArg Window.base (s.setWindow_win_same w (Window.writeBase v))
  rw [State.readRegister, written, place_field]
  rfl

theorem State.readRegister_remoteBaseLow_write (w : Fin 8) (v : Word) (s : State) :
    (s.writeRegister (.remoteBaseLow w) v).readRegister (.remoteBaseLow w) = v := by
  have written : ((s.writeRegister (.remoteBaseLow w) v).win[w]).remoteBase =
      s.win[w].remoteBase.extractLsb' 32 8 ++ v :=
    congrArg Window.remoteBase (s.setWindow_win_same w (Window.writeRemoteLow v))
  rw [State.readRegister, written]
  exact BitVec.extractLsb'_append_eq_right

theorem State.writeRegister_remoteBaseHigh_win (w : Fin 8) (v : Word) (s : State) :
    ((s.writeRegister (.remoteBaseHigh w) v).win[w]).remoteBase =
      field 0 8 v ++ s.win[w].remoteBase.extractLsb' 0 32 :=
  congrArg Window.remoteBase (s.setWindow_win_same w (Window.writeRemoteHigh v))

theorem State.readRegister_remoteBaseHigh_write (w : Fin 8) (v : Word) (s : State) :
    (s.writeRegister (.remoteBaseHigh w) v).readRegister (.remoteBaseHigh w) = v &&& 0xFF := by
  have high : (field 0 8 v ++ s.win[w].remoteBase.extractLsb' 0 32).extractLsb' 32 8 = field 0 8 v :=
    BitVec.extractLsb'_append_eq_left
  rw [State.readRegister, State.writeRegister_remoteBaseHigh_win, high, place_field]
  rfl

theorem State.readRegister_remoteBaseLow_of_writeHigh (w : Fin 8) (v : Word) (s : State) :
    (s.writeRegister (.remoteBaseHigh w) v).readRegister (.remoteBaseLow w) = s.readRegister (.remoteBaseLow w) := by
  rw [State.readRegister, State.writeRegister_remoteBaseHigh_win, State.readRegister]
  exact BitVec.extractLsb'_append_eq_right

/-- A size code fits its field. -/
theorem placeNat_sizeCode (n : Nat) (hn : n ≤ 16) : placeNat 8 5 n = BitVec.ofNat 32 n <<< 8 := by
  have fits : (BitVec.ofNat 5 n).setWidth 32 = BitVec.ofNat 32 n := by
    apply BitVec.eq_of_toNat_eq
    rw [BitVec.toNat_setWidth, BitVec.toNat_ofNat, BitVec.toNat_ofNat, Nat.mod_eq_of_lt (by omega : n < 2 ^ 5)]
  rw [placeNat, place, fits]

theorem State.readRegister_windowControl_write (w : Fin 8) (v : Word) (s : State) :
    (s.writeRegister (.windowControl w) v).readRegister (.windowControl w) =
      (v &&& 0x33) ||| (BitVec.ofNat 32 (min 16 (v.extractLsb' 8 5).toNat) <<< 8) := by
  have written : (s.writeRegister (.windowControl w) v).win[w] = s.win[w].writeControl v :=
    s.setWindow_win_same w (Window.writeControl v)
  have code : (sizeCodeOf (field 8 5 v)).val = min 16 (v.extractLsb' 8 5).toNat := by
    rw [sizeCodeOf_eq_min]
    exact Nat.mod_eq_of_lt (Nat.lt_succ_of_le (Nat.min_le_left _ _))
  have masks : (v &&& fieldMask 0 2) ||| (v &&& fieldMask 4 2) = v &&& ((51 : Nat) : Word) := by
    rw [← BitVec.and_or_distrib_left]
    rfl
  rw [State.readRegister, written, ← placeNat_sizeCode _ (Nat.min_le_left _ _), ← masks, ← place_field, ← place_field,
    ← code]
  simp only [Window.writeControl, modeCode_modeOf]

/-- Settles O10: each write sets the part of the record that its register carries, and a read shows that part. -/
theorem windowRegistersWriteAndReadBack : Obligations.WindowRegistersWriteAndReadBack := by
  refine ⟨fun s q w v hreset => ?_, fun s w v => ⟨s.readRegister_windowBase_write w v,
    s.readRegister_remoteBaseLow_write w v, s.readRegister_remoteBaseHigh_write w v,
    s.readRegister_remoteBaseLow_of_writeHigh w v, s.readRegister_windowControl_write w v⟩⟩
  have written := fun r => exec_registerWrite_high hreset r q v
  refine ⟨(written (.windowControl w)).trans ?_, written (.windowBase w), written (.remoteBaseLow w),
    written (.remoteBaseHigh w)⟩
  rw [← sizeCodeOf_eq_min]
  rfl

end Sys2Proof.Machine
end

section
/-! SUPPORT. The link commands, teardown, and the reports and raises of the event unit (O15, O16, O17, O20). -/

namespace Sys2Proof.Machine

variable {s : State}

/-! ### What a command code does in each state -/

theorem State.commandEffect_enable (s : State) :
    s.commandEffect 1 = if s.ltc.link = .off then some s.freshStart else none := by
  cases hl : s.ltc.link <;> simp [State.commandEffect, hl]

theorem State.commandEffect_retrain (s : State) :
    s.commandEffect 2 = if s.ltc.link = .active then some (s.retrain .software) else none := by
  cases hl : s.ltc.link <;> simp [State.commandEffect, hl]

theorem State.commandEffect_restart (s : State) :
    s.commandEffect 3 = if s.ltc.link = .failed then some s.freshStart else none := by
  cases hl : s.ltc.link <;> simp [State.commandEffect, hl]

theorem State.commandEffect_disable (s : State) :
    s.commandEffect 4 = if s.ltc.link = .off then none else some s.disable := by
  cases hl : s.ltc.link <;> simp [State.commandEffect, hl]

theorem State.commandEffect_unassigned {code : BitVec 4} (h : 5 ≤ code.toNat) (s : State) :
    s.commandEffect code = none := by
  obtain ⟨k, hk⟩ : ∃ k, code.toNat = k + 5 := ⟨code.toNat - 5, by omega⟩
  simp [State.commandEffect, hk]

theorem State.takenLinkCommand_accepted {t : State} {code : BitVec 4} (hreset : s.resetN = true) (hcode : code ≠ 0)
    (h : s.commandEffect code = some t) :
    s.takenWrite (State.linkCommand code) = .next ((t.commandStatus code true).answered (.done [])) := by
  rw [State.takenWrite_high hreset, State.linkCommand_accepted hcode h]

theorem State.takenLinkCommand_refused {code : BitVec 4} (hreset : s.resetN = true) (hcode : code ≠ 0)
    (h : s.commandEffect code = none) :
    s.takenWrite (State.linkCommand code) = .next ((s.commandStatus code false).answered (.done [])) := by
  rw [State.takenWrite_high hreset, State.linkCommand_refused hcode h]

/-! ### Training starts -/

theorem Ltc.trainingStart_eq (c : Ltc) :
    c.trainingStart =
      { c with
        current := c.staged, trial := c.trial || decide (c.staged ≠ c.current), attempts := 0, skRun := 0, alRun := none
        alignTimer := none, seekTimer := some (c.seekWindow.toNat * 100) } := by
  have differs : (c.staged != c.current) = decide (c.staged ≠ c.current) := by
    rw [bne, Bool.beq_eq_decide_eq, decide_not]
  rw [Ltc.trainingStart, differs]
  rfl

/-- Settles O15: the code names an effect in this state, and the effect is a training start. -/
theorem acceptedTrainingCommands : Obligations.AcceptedTrainingCommands := by
  intro s hreset
  refine ⟨fun c code hcase => ?start, fun hactive => ?retrain⟩
  case start =>
    have started : exec c s = .next ((s.freshStart.commandStatus code true).answered (.done [])) := by
      rcases hcase with ⟨rfl, rfl, hl⟩ | ⟨rfl, rfl, hl⟩
      · exact State.takenLinkCommand_accepted hreset (by decide) (by rw [State.commandEffect_enable, if_pos hl])
      · exact State.takenLinkCommand_accepted hreset (by decide) (by rw [State.commandEffect_restart, if_pos hl])
    rw [started, State.freshStart, Ltc.freshStart, Ltc.trainingStart_eq]
    rfl
  case retrain =>
    refine (State.takenLinkCommand_accepted hreset (by decide)
      (by rw [State.commandEffect_retrain, if_pos hactive])).trans ?_
    rw [State.retrain_active hactive, Ltc.retrain, Ltc.trainingStart_eq]
    rfl

/-- Settles O16: the code names no effect in this state, so only the command status changes. -/
theorem refusedLinkCommands : Obligations.RefusedLinkCommands := by
  intro s c code hreset hcase
  rcases hcase with ⟨rfl, rfl, hl⟩ | ⟨rfl, rfl, hl⟩ | ⟨rfl, rfl, hl⟩ | ⟨rfl, rfl, hl⟩ | ⟨rfl, hcode⟩
  · exact State.takenLinkCommand_refused hreset (by decide) (by rw [State.commandEffect_enable, if_neg hl])
  · exact State.takenLinkCommand_refused hreset (by decide) (by rw [State.commandEffect_retrain, if_neg hl])
  · exact State.takenLinkCommand_refused hreset (by decide) (by rw [State.commandEffect_restart, if_neg hl])
  · exact State.takenLinkCommand_refused hreset (by decide) (by rw [State.commandEffect_disable, if_pos hl])
  · refine State.takenLinkCommand_refused hreset ?_ (State.commandEffect_unassigned hcode s)
    rintro rfl
    exact absurd hcode (by decide)

/-! ### Teardown -/

/-- Teardown fails what is still in flight (R29). -/
theorem Held.afterTeardown_eq (ticks : Nat) (h : Held) :
    h.afterTeardown ticks =
      match h.phase with
      | .queued _ => { h with phase := .failed .linkLost ticks }
      | .issued _ _ => { h with phase := .failed .linkLost ticks }
      | .ready _ _ => h
      | .failed _ _ => h := by
  cases hp : h.phase <;> simp [Held.afterTeardown, Held.inFlight, Held.fail, hp]

theorem Evu.writesDropped_length {α : Type} (l : List α) (e : Evu) :
    e.writesDropped l.length =
      if l = [] then e
      else (e.raise .writesLost).report { kind := .writesLost, detail := some (BitVec.ofNat 16 l.length) } := by
  cases l with
  | nil => rfl
  | cons a l => rfl

/-- Settles O17: teardown block by block, and the accepted DISABLE. -/
theorem teardownAndDisableEndTheSession : Obligations.TeardownAndDisableEndTheSession := by
  refine ⟨fun s => ?teardown, fun s hreset hlink => ?disable⟩
  case teardown =>
    rw [State.teardown, Evu.writesDropped_length, Hrt.teardown, funext (Held.afterTeardown_eq s.hrt.discardTicks)]
    rfl
  case disable =>
    refine (State.takenLinkCommand_accepted hreset (by decide)
      (by rw [State.commandEffect_disable, if_neg hlink])).trans ?_
    rw [State.disable]
    rfl

/-! ### Reports and raises -/

theorem getLsbD_causeFlag : ∀ (c : LocalCause) (k : Fin 8),
    (causeFlag c).getLsbD k = decide (k.val + 1 = causeRank c) := by
  intro c
  cases c <;> decide

theorem Evu.raise_localPending (c : LocalCause) (e : Evu) (k : Fin 8) :
    (e.raise c).localPending.getLsbD k = (e.localPending.getLsbD k || decide (k.val + 1 = causeRank c)) := by
  have flagged : (e.raise c).localPending = e.localPending ||| causeFlag c := rfl
  rw [flagged, BitVec.getLsbD_or, getLsbD_causeFlag]

/-- Settles O20: the two cases of a report, and the flag of a raise. -/
theorem reportsAndRaisesReachTheEventUnit : Obligations.ReportsAndRaisesReachTheEventUnit := fun e =>
  ⟨fun r hnone => Evu.report_empty hnone r, fun r _ hfull => Evu.report_filled hfull r,
    fun c => ⟨rfl, e.raise_localPending c⟩⟩

end Sys2Proof.Machine
end

section
/-! SUPPORT. The sequence check of numbered frames (O30), and a completion at the entry that holds its tag (O31). -/

namespace Sys2Proof.Machine

variable {s : State}

/-! ### The sequence check -/

theorem State.sequenced_of_duplicate {k : Nat} (hk : 1 ≤ k ∧ k ≤ 64) (owner : State → State) (s : State) :
    s.sequenced (s.lrx.expected - BitVec.ofNat 7 k) owner = s.ackDue := by
  have behind : 64 ≤ (s.lrx.expected - BitVec.ofNat 7 k - s.lrx.expected).toNat := by bv_omega
  have other : s.lrx.expected - BitVec.ofNat 7 k ≠ s.lrx.expected := by bv_omega
  rw [State.sequenced, if_neg other, if_pos behind]

theorem State.sequenced_of_ahead {k : Nat} (hk : 1 ≤ k ∧ k ≤ 63) (owner : State → State) (s : State) :
    s.sequenced (s.lrx.expected + BitVec.ofNat 7 k) owner = s.badFrame := by
  have ahead : ¬ 64 ≤ (s.lrx.expected + BitVec.ofNat 7 k - s.lrx.expected).toNat := by bv_omega
  have other : s.lrx.expected + BitVec.ofNat 7 k ≠ s.lrx.expected := by bv_omega
  rw [State.sequenced, if_neg other, if_neg ahead]

/-- Settles O30: both rows check the number in the same way, and it is behind or ahead of the expected one. -/
theorem sequenceCheckOfNumberedFrames : Obligations.SequenceCheckOfNumberedFrames := by
  refine ⟨fun s => rfl, fun s number c hreset hactive hc => ?_⟩
  have checked : ∃ owner, exec c s = .next (s.goodFrame.sequenced number owner) := by
    rcases hc with ⟨tag, st, data, rfl⟩ | ⟨kind, body, rfl⟩
    · exact ⟨_, State.powered_accepted_active hreset hactive _ _⟩
    · exact ⟨_, State.powered_accepted_active hreset hactive _ _⟩
  obtain ⟨owner, hexec⟩ := checked
  rw [hexec]
  refine ⟨fun ⟨k, hk1, hk64, hn⟩ => ?duplicate, fun ⟨k, hk1, hk63, hn⟩ => ⟨fun hopen => ?first, fun hopen => ?later⟩⟩
  case duplicate =>
    rw [hn]
    exact congrArg _ (State.sequenced_of_duplicate ⟨hk1, hk64⟩ owner s.goodFrame)
  case first =>
    have bad : s.goodFrame.sequenced number owner = s.goodFrame.badFrame :=
      hn ▸ State.sequenced_of_ahead ⟨hk1, hk63⟩ owner s.goodFrame
    rw [bad, State.badFrame_closed (s := s.goodFrame) hopen]
    rfl
  case later =>
    have bad : s.goodFrame.sequenced number owner = s.goodFrame.badFrame :=
      hn ▸ State.sequenced_of_ahead ⟨hk1, hk63⟩ owner s.goodFrame
    rw [bad, State.badFrame_open (s := s.goodFrame) hopen]
    rfl

/-! ### A completion for a HELD tag -/

theorem State.takeCompletion_of_held {tag : Fin 32} (hlt : tag.val < s.isu.allowance) (hh : s.isu.tags[tag] = .held)
    (st : CpStatus) (data : List Byte) : s.takeCompletion tag st data = s.deliverCompletion tag st data := by
  rw [State.takeCompletion, if_neg (Nat.not_le.mpr hlt), hh]

theorem Hrt.setHeld_of_some {t : Hrt} {e : Fin 16} {h : Held} (he : t.entries[e] = some h) (f : Held → Held) :
    t.setHeld e f = { t with entries := t.entries.set e (some (f h)) } := by
  rw [Hrt.setHeld, he]
  rfl

/-- The delivery to the one entry that holds the tag. -/
theorem State.deliverCompletion_of_entry {tag : Fin 32} {e : Fin 16} {h : Held} (he : s.hrt.entries[e] = some h)
    (htag : h.holdsTag tag = true) (hone : ∀ f : Fin 16, ∀ g ∈ s.hrt.entries[f], g.holdsTag tag = true → f = e)
    (st : CpStatus) (data : List Byte) :
    s.deliverCompletion tag st data =
      { s with
        isu := s.isu.setTag tag .free
        hrt := { s.hrt with
          entries := s.hrt.entries.set e (some (h.completed st data s.hrt.discardTicks)) } }.reportOutcome
        e h tag st data := by
  rw [State.deliverCompletion, Hrt.entryWithTag_of_unique he htag hone]
  simp only [Hrt.setHeld_of_some he]

theorem Held.expectedLength_eq (h : Held) (st : CpStatus) :
    h.expectedLength st = if st = .ok ∧ h.kind = .read then h.size else 0 := by
  cases hk : h.kind <;> cases st <;> simp [Held.expectedLength, hk]

theorem Held.completed_of_none {h : Held} {st : CpStatus} {data : List Byte} (hc : h.completionCause st data = none)
    (n : Nat) : h.completed st data n = { h with phase := .ready (h.kind.outcomeData data) n } := by
  rw [Held.completed, hc]

theorem Held.completed_of_some {h : Held} {st : CpStatus} {data : List Byte} {c : FailCause}
    (hc : h.completionCause st data = some c) (n : Nat) : h.completed st data n = { h with phase := .failed c n } := by
  rw [Held.completed, hc]

theorem State.reportOutcome_of_none {h : Held} {st : CpStatus} {data : List Byte} (hc : h.completionCause st data = none)
    (e : Fin 16) (tag : Fin 32) (s : State) : s.reportOutcome e h tag st data = s := by
  rw [State.reportOutcome, hc]

theorem Held.completionCause_of_badLength {h : Held} {st : CpStatus} {data : List Byte}
    (hlen : data.length ≠ h.expectedLength st) : h.completionCause st data = some .badCompletion := by
  unfold Held.completionCause
  exact if_pos hlen

/-- Settles O31: the data length decides first and the status second what the entry becomes and what is reported. -/
theorem completionReachesItsEntry : Obligations.CompletionReachesItsEntry := by
  intro s tag st data e h timer hreset hactive hlt hheld he hp hone
  have htag : h.holdsTag tag = true := Held.holdsTag_iff.mpr ⟨timer, hp⟩
  have reached : exec (.cpReceived s.lrx.expected tag st data) s = .next
      ({ s.goodFrame.delivered with
        isu := s.isu.setTag tag .free
        hrt := { s.hrt with
          entries := s.hrt.entries.set e (some (h.completed st data s.hrt.discardTicks)) } }.reportOutcome
        e h tag st data) := by
    rw [exec_cpReceived_expected hreset hactive, State.takeCompletion_of_held (s := s.goodFrame.delivered) hlt hheld,
      State.deliverCompletion_of_entry (s := s.goodFrame.delivered) he htag hone]
    rfl
  rw [reached]
  by_cases hlen : data.length = h.expectedLength st
  · have hlen' := hlen
    rw [Held.expectedLength_eq] at hlen'
    cases st with
    | ok =>
      have hc : h.completionCause .ok data = none := by rw [Held.completionCause, if_neg (Classical.not_not.mpr hlen)]
      rw [Held.completed_of_none hc, State.reportOutcome_of_none hc]
      cases hk : h.kind with
      | read => exact ⟨_, .inl ⟨rfl, rfl, by simpa [hk] using hlen', rfl⟩, rfl⟩
      | hwrite held =>
        exact ⟨_, .inr (.inl ⟨rfl, by simp, List.length_eq_zero_iff.mp (by simpa [hk] using hlen'), rfl⟩), rfl⟩
    | remoteFault =>
      have hc : h.completionCause .remoteFault data = some .remoteFault := by
        rw [Held.completionCause, if_neg (Classical.not_not.mpr hlen)]
      rw [Held.completed_of_some hc, State.reportOutcome, hc]
      exact ⟨_, .inr (.inr (.inl ⟨rfl, List.length_eq_zero_iff.mp (by simpa using hlen'), rfl⟩)), rfl⟩
    | unsupported =>
      have hc : h.completionCause .unsupported data = some .unsupported := by
        rw [Held.completionCause, if_neg (Classical.not_not.mpr hlen)]
      rw [Held.completed_of_some hc, State.reportOutcome, hc]
      exact ⟨_, .inr (.inr (.inr (.inl ⟨rfl, List.length_eq_zero_iff.mp (by simpa using hlen'), rfl⟩))), rfl⟩
  · have hc := Held.completionCause_of_badLength hlen
    rw [Held.completed_of_some hc, State.reportOutcome, hc]
    exact ⟨_, .inr (.inr (.inr (.inr ⟨Held.expectedLength_eq h st ▸ hlen, rfl⟩))), rfl⟩

end Sys2Proof.Machine
end

section
/-! SUPPORT. Acknowledgement (O34), and a replay that becomes due with the negative acknowledgement (O35). -/

namespace Sys2Proof.Machine

variable {s : State}

/-! ### The three cases of an acknowledged number -/

theorem Ltx.ackClass_eq_outOfRange_iff {x : Ltx} {n : BitVec 7} :
    x.ackClass n = .outOfRange ↔ (∀ f ∈ x.buffer, f.number ≠ n) ∧ n ≠ x.oldest.getD x.next - 1 := by
  by_cases hin : ∃ f ∈ x.buffer, f.number = n
  · obtain ⟨f, hf, hn⟩ := hin
    rw [Ltx.ackClass_progress ⟨f, hf, hn⟩]
    exact ⟨fun h => (nomatch h), fun ⟨hnone, _⟩ => absurd hn (hnone f hf)⟩
  · have hnone : ∀ f ∈ x.buffer, f.number ≠ n := fun f hf hn => hin ⟨f, hf, hn⟩
    by_cases hstale : n = x.oldest.getD x.next - 1
    · rw [Ltx.ackClass_stale hnone hstale]
      exact ⟨fun h => (nomatch h), fun ⟨_, hne⟩ => absurd hstale hne⟩
    · rw [Ltx.ackClass_outOfRange hnone hstale]
      exact ⟨fun _ => ⟨hnone, hstale⟩, fun _ => rfl⟩

theorem passAfter_eq (rest : List SentFrame) (p : BitVec 7) :
    passAfter rest p = if ∃ g ∈ rest, g.number = p then some p else rest.head?.map SentFrame.number := by
  simp only [passAfter, List.any_eq_true, beq_iff_eq]

/-- Progress frees the frames up to the first one with the number. -/
theorem Ltx.progress_of_split {x : Ltx} {old rest : List SentFrame} {f : SentFrame} {n : BitVec 7}
    (hb : x.buffer = old ++ f :: rest) (hf : f.number = n) (hold : ∀ g ∈ old, g.number ≠ n) :
    x.progress n =
      { x with
        buffer := rest
        shortRetry := 0
        longRetry := 0
        replayTimer := if rest = [] then none else some (x.replayInterval.toNat * 4)
        pass :=
          match x.pass with
          | none => none
          | some p => if ∃ g ∈ rest, g.number = p then some p else rest.head?.map SentFrame.number } := by
  have left : (x.buffer.dropWhile fun f => f.number != n).tail = rest := by
    rw [hb, List.dropWhile_append_of_pos fun g hg => bne_iff_ne.mpr (hold g hg), List.dropWhile_cons_of_neg (by simp [hf])]
    rfl
  cases hp : x.pass <;> simp only [Ltx.progress, left, hp, List.isEmpty_iff, Option.bind_none, Option.bind_some,
    passAfter_eq, Ltx.replayTicks]

theorem exec_akReceived_active (hreset : s.resetN = true) (hactive : s.ltc.link = .active) (n : BitVec 7) :
    exec (.akReceived n) s = .next (s.goodFrame.acknowledge n) :=
  State.powered_accepted_active hreset hactive _ _

/-- Settles O34: the number's case decides what the transmitter does with it. -/
theorem acknowledgementCases : Obligations.AcknowledgementCases := by
  intro s n hreset hactive
  rw [exec_akReceived_active hreset hactive]
  refine ⟨fun old rest f hb hf hold => ?progress, fun hnone => ⟨fun hstale => ?stale, fun hout => ?outOfRange⟩⟩
  case progress =>
    have hin : ∃ g ∈ s.goodFrame.ltx.buffer, g.number = n := ⟨f, by rw [State.goodFrame_ltx, hb]; simp, hf⟩
    rw [State.acknowledge, Ltx.ackClass_progress hin]
    simp only [State.goodFrame_ltx, Ltx.progress_of_split hb hf hold]
    rfl
  case stale =>
    rw [State.acknowledge, Ltx.ackClass_stale (x := s.goodFrame.ltx) hnone hstale]
    rfl
  case outOfRange =>
    rw [State.acknowledge, Ltx.ackClass_outOfRange (x := s.goodFrame.ltx) hnone hout, detailOf, BitVec.ofNat_toNat]
    rfl

/-! ### A replay that is due -/

theorem State.replayDue_short (h : s.ltx.shortRetry < s.ltx.shortLimit.toNat) :
    s.replayDue = { s with ltx := { s.ltx with shortRetry := s.ltx.shortRetry + 1 }.startPass } := by
  rw [State.replayDue, if_pos h]

theorem State.replayDue_long (hactive : s.ltc.link = .active) (hshort : s.ltx.shortLimit.toNat ≤ s.ltx.shortRetry)
    (hlong : s.ltx.longRetry < s.ltx.longLimit.toNat) :
    s.replayDue =
      { s with
        ltx := { s.ltx with longRetry := s.ltx.longRetry + 1 }.leaveActive
        lrx := s.lrx.leaveActive
        ltc := s.ltc.retrain .replay
        evu := s.evu.raise .lretry } := by
  rw [State.replayDue, if_neg (Nat.not_lt.mpr hshort), State.longRetryDue, if_pos hlong, State.retrain_active]
  · rfl
  · exact hactive

theorem State.replayDue_exhausted (hactive : s.ltc.link = .active) (hshort : s.ltx.shortLimit.toNat ≤ s.ltx.shortRetry)
    (hlong : s.ltx.longLimit.toNat ≤ s.ltx.longRetry) : s.replayDue = s.enterFailed .replayExhausted := by
  rw [State.replayDue, if_neg (Nat.not_lt.mpr hshort), State.longRetryDue, if_neg (Nat.not_lt.mpr hlong),
    State.failRequest_active hactive]

/-! ### A NK -/

theorem exec_nkReceived_active (hreset : s.resetN = true) (hactive : s.ltc.link = .active) (n : BitVec 7) :
    exec (.nkReceived n) s = .next (s.goodFrame.takeNk n) :=
  State.powered_accepted_active hreset hactive _ _

theorem State.takeNk_of_outOfRange {n : BitVec 7} (h : s.ltx.ackClass n = .outOfRange) :
    s.takeNk n = s.acknowledge n := by
  rw [State.takeNk]
  exact if_pos h

theorem State.takeNk_of_due {n : BitVec 7} (h : s.ltx.ackClass n ≠ .outOfRange)
    (hpass : (s.acknowledge n).ltx.pass = none) (hbuffer : (s.acknowledge n).ltx.buffer ≠ []) :
    s.takeNk n = (s.acknowledge n).replayDue := by
  have due : ((s.acknowledge n).ltx.pass.isNone && !(s.acknowledge n).ltx.buffer.isEmpty) = true := by
    simp [hpass, hbuffer]
  rw [State.takeNk]
  exact (if_neg h).trans (if_pos due)

theorem State.takeNk_of_not_due {n : BitVec 7} (h : s.ltx.ackClass n ≠ .outOfRange)
    (hidle : (s.acknowledge n).ltx.pass ≠ none ∨ (s.acknowledge n).ltx.buffer = []) :
    s.takeNk n = s.acknowledge n := by
  have notDue : ¬ ((s.acknowledge n).ltx.pass.isNone && !(s.acknowledge n).ltx.buffer.isEmpty) = true := by
    rcases hidle with hpass | hbuffer
    · simp [hpass]
    · simp [hbuffer]
  rw [State.takeNk]
  exact (if_neg h).trans (if_neg notDue)

/-- Settles O35: the retry counts decide what a due replay does, and the number's case and the buffer whether a NK makes
one due. -/
theorem replayDueAndNegativeAcknowledge : Obligations.ReplayDueAndNegativeAcknowledge := by
  refine ⟨fun s hactive => ⟨fun hshort => ?short, fun hshort hlong => ?long, fun hshort hlong => ?exhausted⟩,
    fun s n hreset hactive => ?nk⟩
  case short =>
    rw [State.replayDue_short hshort]
    rfl
  case long =>
    rw [State.replayDue_long hactive hshort hlong, Ltc.retrain, Ltc.trainingStart_eq]
    rfl
  case exhausted =>
    rw [State.replayDue_exhausted hactive hshort hlong]
    rfl
  case nk =>
    rw [exec_nkReceived_active hreset hactive, exec_akReceived_active hreset hactive]
    refine ⟨_, rfl, fun hout => ?_, fun hin => ?_⟩
    · rw [State.takeNk_of_outOfRange (s := s.goodFrame) (Ltx.ackClass_eq_outOfRange_iff.mpr hout)]
    · have inRange : s.goodFrame.ltx.ackClass n ≠ .outOfRange := by
        intro hout
        obtain ⟨hnone, hne⟩ := Ltx.ackClass_eq_outOfRange_iff.mp hout
        rcases hin with ⟨g, hg, hgn⟩ | hstale
        · exact hnone g hg hgn
        · exact hne hstale
      exact ⟨fun hpass hbuffer => congrArg _ (State.takeNk_of_due inRange hpass hbuffer),
        fun hidle => congrArg _ (State.takeNk_of_not_due inRange hidle)⟩

end Sys2Proof.Machine
end

section
/-! SUPPORT. Training frames and bad frames (O37, O38, O40, O41), and the frames that are dropped (O42). -/

namespace Sys2Proof.Machine

variable {s : State}

/-! ### SK and AL in training -/

theorem exec_skReceived_training (hreset : s.resetN = true) (h : s.ltc.link ≠ .active) (g : Grade) :
    exec (.skReceived g) s = .next (s.trainSk g) := State.powered_accepted_training hreset h _ _

theorem exec_alReceived_training (hreset : s.resetN = true) (h : s.ltc.link ≠ .active) (i : BitVec 8) :
    exec (.alReceived i) s = .next (s.trainAl i) := State.powered_accepted_training hreset h _ _

theorem exec_pmReceived_training (hreset : s.resetN = true) (h : s.ltc.link ≠ .active) (n : BitVec 4) (g : Grade)
    (q w : BitVec 8) : exec (.pmReceived n g q w) s = .next (s.trainPm n g q w) :=
  State.powered_accepted_training hreset h _ _

theorem State.trainSk_seek_other {g : Grade} (h : s.ltc.link = .seek) (hg : g ≠ s.ltc.current) :
    s.trainSk g = { s with ltc := { s.ltc with skRun := 0 } } := by
  simp only [State.trainSk, h, if_neg hg]

theorem State.trainSk_seek_first (h : s.ltc.link = .seek) (hrun : s.ltc.skRun < 2) :
    s.trainSk s.ltc.current = { s with ltc := { s.ltc with skRun := s.ltc.skRun + 1 } } := by
  have few : ¬ 3 ≤ s.ltc.skRun + 1 := by omega
  simp only [State.trainSk, h, if_true, State.countSk, if_neg few]

theorem State.trainSk_seek_third (h : s.ltc.link = .seek) (hrun : 2 ≤ s.ltc.skRun) :
    s.trainSk s.ltc.current = { s with ltc := { s.ltc with skRun := s.ltc.skRun + 1 } }.enterAlign := by
  have enough : 3 ≤ s.ltc.skRun + 1 := by omega
  simp only [State.trainSk, h, if_true, State.countSk, if_pos enough]

theorem State.trainSk_ignored (h : s.ltc.link ≠ .seek) (g : Grade) : s.trainSk g = s := by
  unfold State.trainSk
  split
  · next hs => exact absurd hs h
  · rfl

theorem State.trainAl_seek (h : s.ltc.link = .seek) (i : BitVec 8) :
    s.trainAl i = if 1 ≤ s.ltc.skRun then s.enterAlign else s := by
  simp only [State.trainAl, h]

theorem State.trainAl_align (h : s.ltc.link = .align) (i : BitVec 8) : s.trainAl i = s.alignAl i := by
  simp only [State.trainAl, h]

theorem State.trainAl_ignored (hseek : s.ltc.link ≠ .seek) (halign : s.ltc.link ≠ .align) (i : BitVec 8) :
    s.trainAl i = s := by
  unfold State.trainAl
  split
  · next hs => exact absurd hs hseek
  · next ha => exact absurd ha halign
  · rfl

/-- An index one above the AL run gives lock; any other restarts the run (R138). -/
theorem State.alignAl_of_next {i : BitVec 8} (h : s.ltc.alRun = some (i - 1)) :
    s.alignAl i = { s with ltc := { s.ltc with alRun := some i } }.enterExchange := by
  simp only [State.alignAl, h, BitVec.sub_add_cancel, if_true]

theorem State.alignAl_of_other {i : BitVec 8} (h : s.ltc.alRun ≠ some (i - 1)) :
    s.alignAl i = { s with ltc := { s.ltc with alRun := some i } } := by
  cases hrun : s.ltc.alRun with
  | none => simp only [State.alignAl, hrun]
  | some last =>
    have gap : i ≠ last + 1 := by
      rintro rfl
      exact h (by rw [hrun, BitVec.add_sub_cancel])
    simp only [State.alignAl, hrun, if_neg gap]

/-- Settles O37: the link state decides what a training frame is counted in. -/
theorem seekAndAlignFramesMoveTheLinkOn : Obligations.SeekAndAlignFramesMoveTheLinkOn := by
  intro s hreset
  refine ⟨fun hl => ?seek, fun hl => ?align, fun hl => ?exchange⟩
  case seek =>
    have training : s.ltc.link ≠ .active := by rw [hl]; decide
    have sk := exec_skReceived_training hreset training
    have al := fun i => (exec_alReceived_training hreset training i).trans (congrArg _ (State.trainAl_seek hl i))
    refine ⟨fun g hg => ?_, fun hrun => ?_, fun hrun => ?_, fun i hrun => ?_, fun i hrun => ?_⟩
    · rw [sk, State.trainSk_seek_other hl hg]
    · rw [sk, State.trainSk_seek_first hl hrun]
    · rw [sk, State.trainSk_seek_third hl hrun]
      rfl
    · rw [al, if_pos hrun]
      rfl
    · rw [al, if_neg (by omega)]
  case align =>
    have training : s.ltc.link ≠ .active := by rw [hl]; decide
    have al := fun i => (exec_alReceived_training hreset training i).trans (congrArg _ (State.trainAl_align hl i))
    refine ⟨fun i hother => ?_, fun i hnext => ?_, fun g => ?_⟩
    · rw [al, State.alignAl_of_other hother]
    · rw [al, State.alignAl_of_next hnext]
      rfl
    · rw [exec_skReceived_training hreset training, State.trainSk_ignored (by rw [hl]; decide)]
  case exchange =>
    have training : s.ltc.link ≠ .active := by rw [hl]; decide
    refine ⟨fun g => ?_, fun i => ?_⟩
    · rw [exec_skReceived_training hreset training, State.trainSk_ignored (by rw [hl]; decide)]
    · rw [exec_alReceived_training hreset training, State.trainAl_ignored (by rw [hl]; decide) (by rw [hl]; decide)]

/-! ### PM before the exchange, and a PM that fails -/

theorem State.trainPm_align (h : s.ltc.link = .align) (n : BitVec 4) (g : Grade) (q w : BitVec 8) :
    s.trainPm n g q w = if s.ltc.alRun.isSome then s.enterExchange else s := by
  simp only [State.trainPm, h]

theorem State.trainPm_ignored (halign : s.ltc.link ≠ .align) (hexchange : s.ltc.link ≠ .exchange) (n : BitVec 4)
    (g : Grade) (q w : BitVec 8) : s.trainPm n g q w = s := by
  unfold State.trainPm
  split
  · next ha => exact absurd ha halign
  · next he => exact absurd he hexchange
  · rfl

theorem State.trainPm_of_failed {n : BitVec 4} {g : Grade} {q w : BitVec 8} {k : Nat} (h : s.ltc.link = .exchange)
    (hk : s.ltc.failedCheck n g q w = some k) :
    s.trainPm n g q w = s.report { kind := .paramInvalid, detail := some (detailOf k) } := by
  simp only [State.trainPm, h, hk]

/-- The first check that fails, by its number (R140). -/
theorem Ltc.failedCheck_eq_some {c : Ltc} {n : BitVec 4} {g : Grade} {q w : BitVec 8} {check : BitVec 16}
    (h : (check = 1 ∧ g ≠ c.current) ∨ (check = 2 ∧ g = c.current ∧ n = 0) ∨
      (check = 3 ∧ g = c.current ∧ n ≠ 0 ∧ (q.toNat = 0 ∨ 32 < q.toNat)) ∨
      (check = 4 ∧ g = c.current ∧ n ≠ 0 ∧ 1 ≤ q.toNat ∧ q.toNat ≤ 32 ∧ (w.toNat = 0 ∨ 64 < w.toNat))) :
    c.failedCheck n g q w = some check.toNat := by
  rcases h with ⟨rfl, hg⟩ | ⟨rfl, hg, hn⟩ | ⟨rfl, hg, hn, hq⟩ | ⟨rfl, hg, hn, hq₁, hq₂, hw⟩
  · rw [Ltc.failedCheck, if_pos hg]
    rfl
  · rw [Ltc.failedCheck, if_neg (Classical.not_not.mpr hg), if_pos hn]
    rfl
  · rw [Ltc.failedCheck, if_neg (Classical.not_not.mpr hg), if_neg hn, if_pos hq]
    rfl
  · rw [Ltc.failedCheck, if_neg (Classical.not_not.mpr hg), if_neg hn, if_neg (by omega), if_pos hw]
    rfl

/-- Settles O38: before EXCHANGE a PM gives lock or nothing, and there the first failing check is reported. -/
theorem parametersBeforeAndFailingTheExchange : Obligations.ParametersBeforeAndFailingTheExchange := by
  intro s n g q w hreset
  have train := fun h => exec_pmReceived_training hreset h n g q w
  refine ⟨fun hl => ?_, fun hl hrun => ?_, fun hl hrun => ?_, fun hl check hcheck => ?_⟩
  · rw [train (by rw [hl]; decide), State.trainPm_ignored (by rw [hl]; decide) (by rw [hl]; decide)]
  · rw [train (by rw [hl]; decide), State.trainPm_align hl, hrun]
    rfl
  · rw [train (by rw [hl]; decide), State.trainPm_align hl, if_pos (Option.isSome_iff_ne_none.mpr hrun)]
    rfl
  · rw [train (by rw [hl]; decide), State.trainPm_of_failed hl (Ltc.failedCheck_eq_some hcheck), detailOf,
      BitVec.ofNat_toNat]
    rfl

/-! ### Training frames in ACTIVE -/

/-- A retrain asked for in ACTIVE by a frame that ends the line-loss run, with the SK run that it starts with. -/
def State.partnerRetrain (run : Nat) (s : State) : State :=
  { s with
    ltc := { s.ltc.retrain .partner with skRun := run }
    ltx := s.ltx.leaveActive
    lrx := { s.lrx with lineLossRun := 0, ackDelayTimer := none } }

theorem State.retrain_partner_of_goodFrame (h : s.ltc.link = .active) :
    s.goodFrame.retrain .partner = s.partnerRetrain 0 :=
  State.retrain_active (s := s.goodFrame) h .partner

theorem State.activeSk_of_goodFrame (h : s.ltc.link = .active) (g : Grade) :
    s.goodFrame.activeSk g = s.partnerRetrain (if g = s.ltc.staged then 1 else 0) := by
  have grade : (s.partnerRetrain 0).ltc.current = s.ltc.staged := rfl
  rw [State.activeSk, State.retrain_partner_of_goodFrame h]
  simp only [grade]
  split <;> rfl

theorem State.activePm_of_other {n : BitVec 4} {g : Grade} {q w : BitVec 8}
    (hother : n ≠ s.ltc.partnerSession ∨ g ≠ s.ltc.current ∨ q.toNat ≠ s.ltc.requestOffer ∨
      w.toNat ≠ s.ltc.writeOffer) : s.activePm n g q w = s.retrain .partner := by
  refine if_neg fun ⟨hmatch, hgrade⟩ => ?_
  obtain ⟨hn, hq, hw⟩ := Ltc.matchesSession_iff.mp hmatch
  rcases hother with h | h | h | h
  · exact h hn
  · exact h hgrade
  · exact h hq
  · exact h hw

/-- Settles O40: a PM that agrees with the session repeats it, and every other training frame asks for a retrain. -/
theorem trainingFramesInActive : Obligations.TrainingFramesInActive := by
  intro s c run hreset hactive
  refine ⟨fun hc hq hw => ?repeats, fun hc => ?retrains⟩
  case repeats =>
    have same : s.goodFrame.ltc.matchesSession s.ltc.partnerSession (BitVec.ofNat 8 s.ltc.requestOffer)
        (BitVec.ofNat 8 s.ltc.writeOffer) = true :=
      Ltc.matchesSession_iff.mpr ⟨rfl, Nat.mod_eq_of_lt hq, Nat.mod_eq_of_lt hw⟩
    rw [hc]
    refine (State.powered_accepted_active hreset hactive _ _).trans (congrArg _ ?_)
    exact if_pos ⟨same, rfl⟩
  case retrains =>
    have made : exec c s = .next (s.partnerRetrain run) := by
      rcases hc with ⟨g, rfl, rfl⟩ | ⟨i, rfl, rfl⟩ | ⟨n, g, q, w, rfl, rfl, hother⟩
      · exact (State.powered_accepted_active hreset hactive _ _).trans
          (congrArg _ (State.activeSk_of_goodFrame hactive g))
      · exact (State.powered_accepted_active hreset hactive _ _).trans
          (congrArg _ (State.retrain_partner_of_goodFrame hactive))
      · refine (State.powered_accepted_active hreset hactive _ _).trans (congrArg _ ?_)
        exact (State.activePm_of_other (s := s.goodFrame) hother).trans (State.retrain_partner_of_goodFrame hactive)
    rw [made, State.partnerRetrain, Ltc.retrain, Ltc.trainingStart_eq]
    rfl

/-! ### Bad frames in ACTIVE -/

theorem exec_rejectedFrameReceived_active (hreset : s.resetN = true) (hactive : s.ltc.link = .active) :
    exec .rejectedFrameReceived s = .next s.goodFrame.badFrame :=
  (State.powered_high hreset _).trans (congrArg _ (if_pos hactive))

theorem exec_corruptFrameReceived_active (hreset : s.resetN = true) (hactive : s.ltc.link = .active) :
    exec .corruptFrameReceived s = .next s.corruptFrame :=
  (State.powered_high hreset _).trans (congrArg _ (if_pos hactive))

theorem State.corruptFrame_below (h : s.lrx.lineLossRun + 1 < s.lrx.lineLossThreshold.toNat) :
    s.corruptFrame = { s with lrx := { s.lrx with lineLossRun := s.lrx.lineLossRun + 1 } }.badFrame :=
  if_neg (Nat.not_le.mpr h)

/-- At the threshold the run ends and the retrain drops the NK that the bad frame made due (R116, R125). -/
theorem State.corruptFrame_at (hactive : s.ltc.link = .active)
    (h : s.lrx.lineLossThreshold.toNat ≤ s.lrx.lineLossRun + 1) :
    s.corruptFrame =
      { s with
        ltc := s.ltc.retrain .lineLoss
        ltx := s.ltx.leaveActive
        lrx := { s.lrx with nakOpen := true, lineLossRun := 0, ackDelayTimer := none } } := by
  have bad : s.corruptFrame = s.goodFrame.badFrame.retrain .lineLoss := by
    rw [← State.goodFrame_badFrame]
    exact if_pos h
  rw [bad]
  rcases Bool.eq_false_or_eq_true s.lrx.nakOpen with hopen | hopen
  · rw [State.badFrame_open (s := s.goodFrame) hopen, State.retrain_active (s := s.goodFrame) hactive]
    simp only [State.goodFrame, Lrx.leaveActive, hopen]
  · rw [State.badFrame_closed (s := s.goodFrame) hopen, State.retrain_active]
    · rfl
    · exact hactive

/-- Settles O41: the NAK episode and the line-loss run decide what a bad frame does. -/
theorem badFramesInActive : Obligations.BadFramesInActive := by
  intro s hreset hactive
  rw [exec_rejectedFrameReceived_active hreset hactive, exec_corruptFrameReceived_active hreset hactive]
  refine ⟨fun hopen => ?_, fun hopen => ?_, fun hbelow => ⟨fun hopen => ?_, fun hopen => ?_⟩, fun hat => ?_⟩
  · rw [State.badFrame_closed (s := s.goodFrame) hopen]
    rfl
  · rw [State.badFrame_open (s := s.goodFrame) hopen]
    rfl
  · rw [State.corruptFrame_below hbelow, State.badFrame_closed]
    · rfl
    · exact hopen
  · rw [State.corruptFrame_below hbelow, State.badFrame_open]
    exact hopen
  · rw [State.corruptFrame_at hactive hat, Ltc.retrain, Ltc.trainingStart_eq]
    rfl

/-! ### Frames that are dropped -/

/-- What changes nothing while RESET_N is high changes nothing at all. -/
theorem State.powered_of_same {f : State → State} (h : f s = s) : s.powered f = .next s := by
  rw [State.powered, h, ite_self]

/-- Settles O42: outside ACTIVE the training side takes a frame, and it takes training frames in training alone. -/
theorem framesDroppedOutsideActive : Obligations.FramesDroppedOutsideActive := by
  intro s hl
  have dropped : ∀ active training : State → State, training s = s →
      s.powered (State.accepted active training) = .next s := fun active training h =>
    State.powered_of_same ((State.accepted_training hl active training).trans h)
  refine ⟨fun _ _ _ _ => dropped _ _ rfl, fun _ _ _ => dropped _ _ rfl, fun _ => ⟨dropped _ _ rfl, dropped _ _ rfl⟩,
    fun _ => dropped _ _ rfl, State.powered_of_same (if_neg hl), State.powered_of_same (if_neg hl), fun hdown => ?_⟩
  have other : ∀ l : LinkState, l.training → s.ltc.link ≠ l := by
    rintro l hl rfl
    rcases hdown with hd | hd <;> (rw [hd] at hl; revert hl; decide)
  have seek := other .seek (by decide)
  have align := other .align (by decide)
  have exchange := other .exchange (by decide)
  exact ⟨fun g => dropped _ _ (State.trainSk_ignored seek g), fun i => dropped _ _ (State.trainAl_ignored seek align i),
    fun n g q w => dropped _ _ (State.trainPm_ignored align exchange n g q w)⟩

end Sys2Proof.Machine
end

section
/-! SUPPORT. The timer expiries (O43 to O46). -/

namespace Sys2Proof.Machine

variable {s : State}

/-! ### The timers of an entry -/

theorem exec_completionTimerExpiry_issued {e : Fin 16} {h : Held} {tag : Fin 32} {n : Nat} (hreset : s.resetN = true)
    (he : s.hrt.entries[e] = some h) (hp : h.phase = .issued tag n) :
    exec (.completionTimerExpiry e) s = .next (s.completionExpiry e h tag) := by
  rw [exec_completionTimerExpiry, execCompletionTimerExpiry, State.powered_high hreset]
  simp only [he, hp]

theorem exec_completionTimerExpiry_ignored {e : Fin 16}
    (h : ∀ h ∈ s.hrt.entries[e], ∀ tag n, h.phase ≠ .issued tag n) : exec (.completionTimerExpiry e) s = .next s := by
  rw [exec_completionTimerExpiry, execCompletionTimerExpiry]
  refine State.powered_of_same ?_
  cases he : s.hrt.entries[e] with
  | none => rfl
  | some g =>
    cases hp : g.phase with
    | issued tag n => exact absurd hp (h g he tag n)
    | _ => simp only [hp]

/-- Settles O43: the timer runs in an ISSUED entry alone. -/
theorem completionTimerExpiryFailsTheEntry : Obligations.CompletionTimerExpiryFailsTheEntry := by
  intro s e hreset
  refine ⟨fun h tag n he hp => ?_, exec_completionTimerExpiry_ignored⟩
  rw [exec_completionTimerExpiry_issued hreset he hp, State.completionExpiry, Hrt.setHeld_of_some he]
  rfl

theorem exec_discardTimerExpiry_outcome {e : Fin 16} {h : Held} (hreset : s.resetN = true)
    (he : s.hrt.entries[e] = some h) (hdone : h.inFlight = false) :
    exec (.discardTimerExpiry e) s = .next (s.discardExpiry e h) := by
  rw [exec_discardTimerExpiry, execDiscardTimerExpiry, State.powered_high hreset]
  simp only [he, hdone, Bool.false_eq_true, if_false]

theorem Held.inFlight_eq_false_iff {h : Held} :
    h.inFlight = false ↔ (∃ d n, h.phase = .ready d n) ∨ ∃ f n, h.phase = .failed f n := by
  cases hp : h.phase <;> simp [Held.inFlight, hp]

theorem exec_discardTimerExpiry_ignored {e : Fin 16}
    (h : ∀ h ∈ s.hrt.entries[e], (∀ d n, h.phase ≠ .ready d n) ∧ ∀ f n, h.phase ≠ .failed f n) :
    exec (.discardTimerExpiry e) s = .next s := by
  rw [exec_discardTimerExpiry, execDiscardTimerExpiry]
  refine State.powered_of_same ?_
  cases he : s.hrt.entries[e] with
  | none => rfl
  | some g =>
    obtain ⟨hready, hfailed⟩ := h g he
    refine if_pos (Bool.of_not_eq_false fun hdone => ?_)
    rcases Held.inFlight_eq_false_iff.mp hdone with ⟨d, n, hp⟩ | ⟨f, n, hp⟩
    · exact hready d n hp
    · exact hfailed f n hp

/-- A run that reaches a threshold lapses a requester that is not lapsed yet (R23). -/
theorem lapses_eq (threshold : BitVec 4) (q : Requester) :
    lapses threshold q =
      (!q.lapsed && decide (threshold ≠ 0 ∧ threshold.toNat ≤ min 15 (q.discardRun + 1))) := by
  have reached : (threshold != 0 && decide (threshold.toNat ≤ min 15 (q.discardRun + 1))) =
      decide (threshold ≠ 0 ∧ threshold.toNat ≤ min 15 (q.discardRun + 1)) := by
    rw [bne, Bool.beq_eq_decide_eq, ← decide_not, ← Bool.decide_and]
  rw [lapses, Requester.afterDiscard, ← reached]
  cases q.lapsed <;> rfl

theorem Requester.afterDiscard_eq (threshold : BitVec 4) (q : Requester) :
    q.afterDiscard threshold =
      { q with discardRun := min 15 (q.discardRun + 1), lapsed := q.lapsed || lapses threshold q } := by
  have lapsed : (q.afterDiscard threshold).lapsed = (q.lapsed || lapses threshold q) := by
    rw [lapses, Requester.afterDiscard]
    cases q.lapsed <;> rfl
  rw [← lapsed]
  rfl

/-- Settles O44: the entry leaves the table as at a return, and the discard is counted. -/
theorem discardTimerExpiryFreesTheEntry : Obligations.DiscardTimerExpiryFreesTheEntry := by
  intro s e hreset
  refine ⟨fun h q lapse he hdone hq hlapse => ?_, exec_discardTimerExpiry_ignored⟩
  have lapse_eq : lapses s.hrt.lapseThreshold s.hrt.requesters[h.requester] = lapse := by
    rw [lapses_eq, hlapse, hq]
  have lapse_freed : lapses s.hrt.lapseThreshold
      { s.hrt.requesters[h.requester] with heldCount := s.hrt.requesters[h.requester].heldCount - 1 } = lapse :=
    lapse_eq
  have discarded : s.hrt.discard e h.requester =
      { s.hrt with
        entries := Vector.ofFn fun i : Fin 16 =>
          if i = e then none
          else s.hrt.entries[i].map fun g =>
            if g.requester = h.requester ∧ h.order < g.order then { g with order := g.order - 1 } else g
        requesters := s.hrt.requesters.set h.requester { q with
          heldCount := q.heldCount - 1
          discardRun := min 15 (q.discardRun + 1)
          lapsed := q.lapsed || lapse }
        discardCount := min 65535 (s.hrt.discardCount + 1) } := by
    rw [Hrt.discard, Hrt.free_setRequester he, Requester.afterDiscard_eq, lapse_freed, hq]
    rfl
  rw [exec_discardTimerExpiry_outcome hreset he (Held.inFlight_eq_false_iff.mpr hdone), State.discardExpiry, lapse_eq,
    discarded]
  cases lapse <;> rfl

/-! ### The timers of the link -/

theorem exec_replayTimerExpiry_running (hreset : s.resetN = true) (h : s.ltx.replayTimer ≠ none) :
    exec .replayTimerExpiry s = .next (if s.ltx.pass.isNone then s.stopReplay.replayDue else s.stopReplay) := by
  rw [exec_replayTimerExpiry, execReplayTimerExpiry, State.powered_high hreset]
  exact congrArg _ (if_neg (mt Option.isNone_iff_eq_none.mp h))

theorem exec_replayTimerExpiry_stopped (h : s.ltx.replayTimer = none) : exec .replayTimerExpiry s = .next s := by
  rw [exec_replayTimerExpiry, execReplayTimerExpiry]
  exact State.powered_of_same (if_pos (Option.isNone_iff_eq_none.mpr h))

theorem exec_ackDelayTimerExpiry_running (hreset : s.resetN = true) (h : s.lrx.ackDelayTimer ≠ none) :
    exec .ackDelayTimerExpiry s = .next { s with lrx := { s.lrx with ackDelayTimer := none } }.ackDue := by
  rw [exec_ackDelayTimerExpiry, execAckDelayTimerExpiry, State.powered_high hreset]
  exact congrArg _ (if_neg (mt Option.isNone_iff_eq_none.mp h))

theorem exec_ackDelayTimerExpiry_stopped (h : s.lrx.ackDelayTimer = none) : exec .ackDelayTimerExpiry s = .next s := by
  rw [exec_ackDelayTimerExpiry, execAckDelayTimerExpiry]
  exact State.powered_of_same (if_pos (Option.isNone_iff_eq_none.mpr h))

/-- Settles O45: a timer that runs expires, one that does not run changes nothing. -/
theorem linkTimerExpiries : Obligations.LinkTimerExpiries := by
  intro s hreset
  refine ⟨fun htimer hpass => ?_, fun htimer hpass => ?_, exec_replayTimerExpiry_stopped,
    exec_ackDelayTimerExpiry_running hreset, exec_ackDelayTimerExpiry_stopped, fun hl htimer => ?_, fun hidle => ?_⟩
  · rw [exec_replayTimerExpiry_running hreset htimer, if_pos (Option.isNone_iff_eq_none.mpr hpass)]
    rfl
  · rw [exec_replayTimerExpiry_running hreset htimer, if_neg (mt Option.isNone_iff_eq_none.mp hpass)]
    rfl
  · exact (State.powered_high hreset _).trans (congrArg _ (if_pos ⟨hl, Option.isSome_iff_ne_none.mpr htimer⟩))
  · refine State.powered_of_same (if_neg fun ⟨hl, htimer⟩ => ?_)
    rcases hidle with hne | hnone
    · exact hne hl
    · exact Option.isSome_iff_ne_none.mp htimer hnone

/-! ### The seek window -/

theorem exec_seekWindowExpiry_running (hreset : s.resetN = true) (h : s.ltc.seekTimer ≠ none) :
    exec .seekWindowExpiry s = .next ({ s with ltc := s.ltc.countAttempt } : State).limitCheck := by
  rw [exec_seekWindowExpiry, execSeekWindowExpiry, State.powered_high hreset]
  exact congrArg _ (if_neg (mt Option.isNone_iff_eq_none.mp h))

theorem exec_seekWindowExpiry_stopped (h : s.ltc.seekTimer = none) : exec .seekWindowExpiry s = .next s := by
  rw [exec_seekWindowExpiry, execSeekWindowExpiry]
  exact State.powered_of_same (if_pos (Option.isNone_iff_eq_none.mpr h))

theorem State.limitCheck_below (h : s.ltc.attemptLimit.toNat = 0 ∨ s.ltc.attempts < s.ltc.attemptLimit.toNat) :
    s.limitCheck = s := if_pos h

theorem State.limitCheck_fallback (hlimit : s.ltc.attemptLimit.toNat ≠ 0)
    (hat : s.ltc.attemptLimit.toNat ≤ s.ltc.attempts) (htrial : s.ltc.trial = true) :
    s.limitCheck = { s with ltc := s.ltc.fallback }.raise .fallback := by
  rw [State.limitCheck, if_neg (by omega), if_pos htrial]

theorem State.limitCheck_failed (hlimit : s.ltc.attemptLimit.toNat ≠ 0)
    (hat : s.ltc.attemptLimit.toNat ≤ s.ltc.attempts) (htrial : s.ltc.trial = false) :
    s.limitCheck = s.enterFailed .trainTimeout := by
  rw [State.limitCheck, if_neg (by omega), if_neg (by simp [htrial])]

/-- Settles O46: an attempt is counted, and its limit checked. -/
theorem seekWindowExpiryCountsAnAttempt : Obligations.SeekWindowExpiryCountsAnAttempt := by
  refine ⟨fun s => exec_seekWindowExpiry_stopped, fun s t attempts hreset hrun hattempts ht => ?_⟩
  have counted : exec .seekWindowExpiry s = .next t.limitCheck := by
    rw [exec_seekWindowExpiry_running hreset hrun, ht, hattempts]
    rfl
  have limit : t.ltc.attemptLimit = s.ltc.attemptLimit := by rw [ht]
  have count : t.ltc.attempts = attempts := by rw [ht]
  have trial : t.ltc.trial = s.ltc.trial := by rw [ht]
  rw [counted]
  refine ⟨fun hbelow => ?below, fun hlimit hat => ?reached⟩
  case below =>
    refine congrArg _ (State.limitCheck_below ?_)
    rw [limit, count]
    exact hbelow.imp_left fun hz => by rw [hz]; rfl
  case reached =>
    have hlimit' : t.ltc.attemptLimit.toNat ≠ 0 := by
      rw [limit]
      exact fun hz => hlimit (BitVec.eq_of_toNat_eq hz)
    have hat' : t.ltc.attemptLimit.toNat ≤ t.ltc.attempts := by rwa [limit, count]
    refine ⟨fun htrial => ?_, fun htrial => ?_⟩
    · rw [State.limitCheck_fallback hlimit' hat' (trial.trans htrial), ht]
      rfl
    · rw [State.limitCheck_failed hlimit' hat' (trial.trans htrial), State.enterFailed]
      rfl

end Sys2Proof.Machine
end

section
/-! SUPPORT. The issue arbiter: a ring is searched in the order of the distance from the position after the pointer, so the
first eligible member found is the nearest (O49). -/

namespace Sys2Proof.Machine

variable {α : Type} {t : Hrt} {u : Isu}

/-! ### The search of a ring -/

/-- A search along a list that is sorted by a key finds a least one of the members that qualify. -/
theorem key_le_of_find? {key : α → Nat} {l : List α} {p : α → Bool} {x y : α}
    (sorted : l.Pairwise fun x y => key x ≤ key y) (hx : l.find? p = some x) (hy : y ∈ l) (hp : p y = true) :
    key x ≤ key y := by
  obtain ⟨-, before, after, rfl, hbefore⟩ := List.find?_eq_some_iff_append.mp hx
  rcases List.mem_append.mp hy with hy | hy
  · exact absurd hp (by simpa using hbefore y hy)
  · rcases List.mem_cons.mp hy with rfl | hy
    · exact Nat.le_refl _
    · exact List.rel_of_pairwise_cons (List.pairwise_append.mp sorted).2.1 hy

/-- The search order leaves no position of the ring out. -/
theorem mem_searchOrder [DecidableEq α] {ring : List α} {x : α} (hx : x ∈ ring) (pointer : Option α) :
    x ∈ searchOrder ring pointer := by
  cases pointer with
  | none => exact hx
  | some p =>
    rw [← List.takeWhile_append_dropWhile (p := (· != p)) (l := ring)] at hx
    simp only [searchOrder, List.mem_append]
    rcases List.mem_append.mp hx with before | from_
    · exact .inl (.inr before)
    · by_cases heq : x = p
      · have inRing : x ∈ ring := (List.dropWhile_sublist _).subset from_
        exact .inr (List.mem_filter.mpr ⟨inRing, beq_iff_eq.mpr heq⟩)
      · refine .inl (.inl ?_)
        cases hd : ring.dropWhile (· != p) with
        | nil => simp [hd] at from_
        | cons a rest =>
          have first : a = p := by
            have stopped := List.head_dropWhile_not (· != p) (l := ring) (by rw [hd]; exact List.cons_ne_nil _ _)
            simpa [hd] using stopped
          rw [hd] at from_
          rcases List.mem_cons.mp from_ with rfl | later
          · exact absurd first heq
          · exact later

theorem mem_ringA : ∀ x : RingA, x ∈ ringA
  | .requester r => List.mem_append_left _ (List.mem_map_of_mem (List.mem_finRange r))
  | .bSlot => List.mem_append_right _ (List.mem_singleton.mpr rfl)

theorem mem_ringB (r : Fin 8) : r ∈ ringB := List.mem_finRange r

theorem ringA_sorted (pointer : Option RingA) :
    (searchOrder ringA pointer).Pairwise fun x y => RingA.distance pointer x ≤ RingA.distance pointer y := by
  have requesters : ∀ r : Fin 8, (searchOrder ringA (some (.requester r))).Pairwise fun x y =>
      RingA.distance (some (.requester r)) x ≤ RingA.distance (some (.requester r)) y := by decide
  cases pointer with
  | none => decide
  | some p =>
    cases p with
    | requester r => exact requesters r
    | bSlot => decide

/-- The place of a requester in ring B, counted from the position after pointer B. -/
def distanceB (pointer : Option (Fin 8)) (r : Fin 8) : Nat :=
  match pointer with
  | none => r.val
  | some p => (r.val + 7 - p.val) % 8

theorem ringB_sorted (pointer : Option (Fin 8)) :
    (searchOrder ringB pointer).Pairwise fun x y => distanceB pointer x ≤ distanceB pointer y := by
  have positions : ∀ p : Fin 8, (searchOrder ringB (some p)).Pairwise fun x y =>
      distanceB (some p) x ≤ distanceB (some p) y := by decide
  cases pointer with
  | none => decide
  | some p => exact positions p

/-! ### The grant -/

theorem Hrt.eligibleA_bSlot : t.eligibleA .bSlot = true ↔ ∃ r : Fin 8, t.eligibleB r = true := by
  simp [Hrt.eligibleA, mem_ringB]

theorem Hrt.eligibleB_iff {r : Fin 8} :
    t.eligibleB r = true ↔ t.requesters[r].level = .b ∧ t.eligible r = true := by
  simp [Hrt.eligibleB]

theorem Hrt.eligibleA_requester {r : Fin 8} :
    t.eligibleA (.requester r) = true ↔ t.requesters[r].level = .a ∧ t.eligible r = true := by
  simp [Hrt.eligibleA]

/-- An eligible requester makes a position of ring A eligible: its own, or the B-slot (R79, R80). -/
theorem Hrt.exists_eligibleA_iff : (∃ x, t.eligibleA x = true) ↔ ∃ r : Fin 8, t.eligible r = true := by
  constructor
  · rintro ⟨x, hx⟩
    cases x with
    | requester r => exact ⟨r, (Hrt.eligibleA_requester.mp hx).2⟩
    | bSlot =>
      obtain ⟨r, hr⟩ := Hrt.eligibleA_bSlot.mp hx
      exact ⟨r, (Hrt.eligibleB_iff.mp hr).2⟩
  · rintro ⟨r, hr⟩
    cases hl : t.requesters[r].level with
    | a => exact ⟨.requester r, Hrt.eligibleA_requester.mpr ⟨hl, hr⟩⟩
    | b => exact ⟨.bSlot, Hrt.eligibleA_bSlot.mpr ⟨r, Hrt.eligibleB_iff.mpr ⟨hl, hr⟩⟩⟩

/-- The arbiter's two searches. -/
theorem grant_eq_some {g : Grant} (h : grant t u = some g) :
    ((searchOrder ringA u.pointerA).find? t.eligibleA = some (.requester g.requester) ∧
        g.pointerA = some (.requester g.requester) ∧ g.pointerB = u.pointerB) ∨
      ((searchOrder ringA u.pointerA).find? t.eligibleA = some .bSlot ∧
        (searchOrder ringB u.pointerB).find? t.eligibleB = some g.requester ∧
        g.pointerA = some .bSlot ∧ g.pointerB = some g.requester) := by
  unfold grant at h
  split at h
  · next r hr =>
    cases h
    exact .inl ⟨hr, rfl, rfl⟩
  · next hb =>
    obtain ⟨r, hr, rfl⟩ := Option.map_eq_some_iff.mp h
    exact .inr ⟨hb, hr, rfl, rfl⟩
  · cases h

theorem grant_eq_none_iff : grant t u = none ↔ ∀ r : Fin 8, t.eligible r = false := by
  have noPosition : (searchOrder ringA u.pointerA).find? t.eligibleA = none ↔ ∀ r : Fin 8, t.eligible r = false := by
    rw [List.find?_eq_none]
    constructor
    · intro hnone r
      refine Bool.eq_false_iff.mpr fun hr => ?_
      obtain ⟨x, hx⟩ := Hrt.exists_eligibleA_iff.mpr ⟨r, hr⟩
      exact hnone x (mem_searchOrder (mem_ringA x) _) hx
    · intro hnone x _ hx
      obtain ⟨r, hr⟩ := Hrt.exists_eligibleA_iff.mp ⟨x, hx⟩
      exact absurd (hr.symm.trans (hnone r)) (by decide)
  rw [← noPosition]
  unfold grant
  split
  · next h => simp [h]
  · next h =>
    obtain ⟨r, hr⟩ := Hrt.eligibleA_bSlot.mp (List.find?_some h)
    have found : (searchOrder ringB u.pointerB).find? t.eligibleB ≠ none := fun hnone =>
      List.find?_eq_none.mp hnone r (mem_searchOrder (mem_ringB r) _) hr
    simp [h, found]
  · next h => simp [h]

/-- Settles O49: the first search wins with a level-A requester, or with the B-slot and then the second search. -/
theorem arbiterGrantsTheNextEligibleMember : Obligations.ArbiterGrantsTheNextEligibleMember := by
  intro t u
  refine ⟨grant_eq_none_iff, fun g hg => ?_⟩
  have nearest : ∀ {x : RingA}, (searchOrder ringA u.pointerA).find? t.eligibleA = some x → ∀ y : RingA,
      t.eligibleA y = true → RingA.distance u.pointerA x ≤ RingA.distance u.pointerA y := fun hx y hy =>
    key_le_of_find? (ringA_sorted u.pointerA) hx (mem_searchOrder (mem_ringA y) _) hy
  rcases grant_eq_some hg with ⟨hfind, hpA, hpB⟩ | ⟨hfind, hfindB, hpA, hpB⟩
  · obtain ⟨hlevel, heligible⟩ := Hrt.eligibleA_requester.mp (List.find?_some hfind)
    exact ⟨heligible, .inl ⟨hpA, hlevel, hpB, nearest hfind⟩⟩
  · obtain ⟨hlevel, heligible⟩ := Hrt.eligibleB_iff.mp (List.find?_some hfindB)
    refine ⟨heligible, .inr ⟨hpA, hlevel, hpB, nearest hfind, fun r hr => ?_⟩⟩
    have nearestB := key_le_of_find? (ringB_sorted u.pointerB) hfindB (mem_searchOrder (mem_ringB r) _) hr
    cases hp : u.pointerB with
    | none =>
      rw [hp] at nearestB
      exact Fin.le_def.mpr nearestB
    | some p =>
      rw [hp] at nearestB
      exact nearestB

end Sys2Proof.Machine
end

section
/-! SUPPORT. The transmit pair: the new-frame slot on its two paths (O47, O48), and the control, replayed and training
frames (O50). -/

namespace Sys2Proof.Machine

variable {s : State}

/-! ### The offer of a slot -/

/-- Nothing stands before a new frame in the transmit choice (Table 6-2). -/
structure State.SlotOpen (s : State) : Prop where
  link : s.ltc.link = .active
  nk : s.ltx.nkDue = none
  ak : s.ltx.akDue = false
  pass : s.ltx.pass = none

theorem State.SlotOpen.activeChoice (h : s.SlotOpen) :
    s.activeChoice = some (if s.ltx.buffer.length < 32 then .newFrame else .idleFill) := by
  rw [State.activeChoice, if_pos h.link, Ltx.choice, h.nk]
  simp only [h.ak, h.pass, Bool.false_eq_true, if_false]

theorem exec_newFrameSlot_offered (hreset : s.resetN = true) (h : s.SlotOpen) (hroom : s.ltx.buffer.length < 32) :
    exec .newFrameSlot s = .next s.newFrameSlot := by
  rw [exec_newFrameSlot, execNewFrameSlot, State.powered_high hreset]
  simp only [h.activeChoice, if_pos hroom]

theorem exec_newFrameSlot_full (hreset : s.resetN = true) (h : s.SlotOpen) (hfull : 32 ≤ s.ltx.buffer.length) :
    exec .newFrameSlot s = .next { s with tx := .idleFill } := by
  rw [exec_newFrameSlot, execNewFrameSlot, State.powered_high hreset]
  simp only [h.activeChoice, if_neg (Nat.not_lt.mpr hfull)]

theorem State.activeChoice_of_not_open
    (h : s.ltc.link ≠ .active ∨ s.ltx.nkDue ≠ none ∨ s.ltx.akDue = true ∨ s.ltx.pass ≠ none) :
    s.activeChoice ≠ some .newFrame ∧ s.activeChoice ≠ some .idleFill := by
  by_cases hl : s.ltc.link = .active
  · rw [State.activeChoice, if_pos hl, Ltx.choice]
    cases hnk : s.ltx.nkDue with
    | some n => simp
    | none =>
      cases hak : s.ltx.akDue with
      | true => simp
      | false =>
        cases hpass : s.ltx.pass with
        | some p => simp
        | none => simp [hl, hnk, hak, hpass] at h
  · rw [State.activeChoice, if_neg hl]
    exact ⟨fun heq => (nomatch heq), fun heq => nomatch heq⟩

theorem exec_newFrameSlot_ignored
    (h : s.ltc.link ≠ .active ∨ s.ltx.nkDue ≠ none ∨ s.ltx.akDue = true ∨ s.ltx.pass ≠ none) :
    exec .newFrameSlot s = .next s := by
  obtain ⟨hnew, hidle⟩ := State.activeChoice_of_not_open h
  rw [exec_newFrameSlot, execNewFrameSlot]
  refine State.powered_of_same ?_
  split
  · next hc => exact absurd hc hnew
  · next hc => exact absurd hc hidle
  · rfl

/-! ### The path of a slot -/

theorem State.slotPath_of_none (hposted : s.postedCanGo = false) (hheld : s.heldCanGo = false) : s.slotPath = none := by
  rw [State.slotPath, hposted, hheld]

/-- The posted path takes the slot alone, or by the policy (R53 to R55). -/
theorem State.slotPath_of_posted (hposted : s.postedCanGo = true)
    (hpolicy : s.heldCanGo = false ∨ s.reg.policy = .writesFirst ∨ s.pwq.lastContested = .held) :
    s.slotPath = some .posted ∧
      s.recordContest =
        { s with pwq := { s.pwq with lastContested := if s.heldCanGo then .posted else s.pwq.lastContested } } := by
  cases hheld : s.heldCanGo with
  | false => exact ⟨by rw [State.slotPath, hposted, hheld], by rw [State.recordContest, hposted, hheld]; rfl⟩
  | true =>
    have path : contestedPath s.reg.policy s.pwq.lastContested = .posted := by
      rcases hpolicy with hno | hfirst | hlast
      · exact absurd (hheld.symm.trans hno) (by decide)
      · rw [hfirst]
        rfl
      · rw [hlast]
        cases s.reg.policy <;> rfl
    exact ⟨by rw [State.slotPath, hposted, hheld, path], by rw [State.recordContest, hposted, hheld, path]; rfl⟩

/-- The held path takes the slot alone, or by the policy (R53, R55). -/
theorem State.slotPath_of_held (hheld : s.heldCanGo = true)
    (hpolicy : s.postedCanGo = false ∨ (s.reg.policy = .alternate ∧ s.pwq.lastContested = .posted)) :
    s.slotPath = some .held ∧
      s.recordContest =
        { s with pwq := { s.pwq with lastContested := if s.postedCanGo then .held else s.pwq.lastContested } } := by
  cases hposted : s.postedCanGo with
  | false => exact ⟨by rw [State.slotPath, hposted, hheld], by rw [State.recordContest, hposted, hheld]; rfl⟩
  | true =>
    have path : contestedPath s.reg.policy s.pwq.lastContested = .held := by
      rcases hpolicy with hno | ⟨halternate, hlast⟩
      · exact absurd (hposted.symm.trans hno) (by decide)
      · rw [halternate, hlast]
        rfl
    exact ⟨by rw [State.slotPath, hposted, hheld, path], by rw [State.recordContest, hposted, hheld, path]; rfl⟩

theorem State.newFrameSlot_of_posted (hposted : s.postedCanGo = true)
    (hpolicy : s.heldCanGo = false ∨ s.reg.policy = .writesFirst ∨ s.pwq.lastContested = .held) :
    s.newFrameSlot =
      { s with
        pwq := { s.pwq with lastContested := if s.heldCanGo then .posted else s.pwq.lastContested } }.depart := by
  obtain ⟨path, contest⟩ := State.slotPath_of_posted hposted hpolicy
  rw [State.newFrameSlot, path, contest]

theorem State.newFrameSlot_of_held (hheld : s.heldCanGo = true)
    (hpolicy : s.postedCanGo = false ∨ (s.reg.policy = .alternate ∧ s.pwq.lastContested = .posted)) :
    s.newFrameSlot =
      { s with
        pwq := { s.pwq with lastContested := if s.postedCanGo then .held else s.pwq.lastContested } }.issue := by
  obtain ⟨path, contest⟩ := State.slotPath_of_held hheld hpolicy
  rw [State.newFrameSlot, path, contest]

/-! ### The posted path -/

theorem State.postedCanGo_of_queue {w : PostedWrite} {rest : List PostedWrite} (hq : s.pwq.queue = w :: rest)
    (hcredit : (s.isu.sent - s.isu.returned).toNat < s.isu.writeOffer) : s.postedCanGo = true := by
  have available : 1 ≤ s.isu.creditsAvailable := by
    rw [Isu.creditsAvailable, Isu.creditsInUse]
    omega
  rw [State.postedCanGo, hq]
  exact decide_eq_true available

theorem Ltx.takeIn_eq (bytes : List Byte) (x : Ltx) :
    x.takeIn bytes =
      { x with
        buffer := x.buffer ++ [{ number := x.next, bytes := bytes }]
        next := x.next + 1
        replayTimer := if x.buffer = [] then some (x.replayInterval.toNat * 4) else x.replayTimer } := by
  simp only [Ltx.takeIn, List.isEmpty_iff, Ltx.replayTicks]

theorem Held.afterDeparture_eq (h : Held) :
    h.afterDeparture =
      match h.phase with
      | .queued n => { h with phase := .queued (n - 1) }
      | .issued _ _ | .ready _ _ | .failed _ _ => h := by
  cases hp : h.phase <;> simp [Held.afterDeparture, hp]

theorem State.depart_of_queue {w : PostedWrite} {rest : List PostedWrite} (hq : s.pwq.queue = w :: rest) :
    s.depart =
      { s with
        pwq := { s.pwq with queue := rest }
        isu := s.isu.departure
        hrt := s.hrt.departure }.sendNew (pwFrame s.ltx.next w) := by
  rw [State.depart, hq]

/-- Settles O47: the slot goes to the posted path, to neither, or is not offered. -/
theorem newFrameSlotPostedOrDeclined : Obligations.NewFrameSlotPostedOrDeclined := by
  refine ⟨fun s w rest bytes hreset hl hnk hak hpass hroom hq hcredit hpolicy hbytes => ?posted, fun s hreset =>
    ⟨fun hl hnk hak hpass hroom hheld hposted => ?declined, fun hl hnk hak hpass hfull => ?full,
      exec_newFrameSlot_ignored⟩⟩
  case posted =>
    rw [exec_newFrameSlot_offered hreset ⟨hl, hnk, hak, hpass⟩ hroom,
      State.newFrameSlot_of_posted (State.postedCanGo_of_queue hq hcredit) hpolicy,
      State.depart_of_queue (w := w) (rest := rest)]
    · rw [State.sendNew, Ltx.takeIn_eq, hbytes, Hrt.departure, funext Held.afterDeparture_eq]
      rfl
    · exact hq
  case declined =>
    rw [exec_newFrameSlot_offered hreset ⟨hl, hnk, hak, hpass⟩ hroom, State.newFrameSlot,
      State.slotPath_of_none hposted hheld]
  case full => exact exec_newFrameSlot_full hreset ⟨hl, hnk, hak, hpass⟩ hfull

/-! ### The held path -/

theorem State.heldCanGo_iff :
    s.heldCanGo = true ↔ (∃ r : Fin 8, s.hrt.eligible r = true) ∧ ∃ tag, s.isu.lowestFreeTag = some tag := by
  simp [State.heldCanGo, Option.isSome_iff_exists]

theorem State.issue_eq {g : Grant} {tag : Fin 32} {e : Fin 16} {h : Held} (hg : grant s.hrt s.isu = some g)
    (htag : s.isu.lowestFreeTag = some tag) (hc : s.hrt.candidate g.requester = some (e, h)) :
    s.issue = s.issueTo g tag e h := by
  simp only [State.issue, hg, htag, hc]

theorem requestFrame_eq (n : BitVec 7) (tag : Fin 32) (h : Held) :
    requestFrame n tag h = withCrc
      (match h.kind with
        | .read => [byte0 2 (0#2 ++ h.segment), numberByte n, tagByte tag, sizeByte h.size] ++ addressBytes h.remote
        | .hwrite data =>
          [byte0 3 (0#2 ++ h.segment), numberByte n, tagByte tag, sizeByte h.size] ++ addressBytes h.remote ++ data) := by
  cases hk : h.kind <;> simp only [requestFrame, hk]

/-- Settles O48: an eligible requester gives a grant, the granted requester a candidate, and a FREE tag the lowest one. -/
theorem newFrameSlotOfTheHeldPath : Obligations.NewFrameSlotOfTheHeldPath := by
  intro s hreset hl hnk hak hpass hroom hheld hpolicy
  obtain ⟨⟨r, hr⟩, tag, htag⟩ := State.heldCanGo_iff.mp hheld
  obtain ⟨g, hg⟩ : ∃ g, grant s.hrt s.isu = some g := Option.ne_none_iff_exists'.mp fun hnone =>
    absurd (hr.symm.trans (grant_eq_none_iff.mp hnone r)) (by decide)
  have heligible := ((arbiterGrantsTheNextEligibleMember s.hrt s.isu).2 g hg).1
  obtain ⟨e, h, hc, hphase⟩ := Hrt.eligible_iff.mp heligible
  obtain ⟨he, hrequester, -, holdest⟩ := Hrt.candidate_some hc
  obtain ⟨⟨hfree, hbelow⟩, hlowest⟩ := Isu.lowestFreeTag_eq_some.mp htag
  refine ⟨g, e, h, tag, _, hg, he, hrequester, hphase, holdest, hfree, hbelow,
    fun u hu hfree' => hlowest u hu ⟨hfree', Nat.lt_trans hu hbelow⟩, rfl, ?_⟩
  rw [exec_newFrameSlot_offered hreset ⟨hl, hnk, hak, hpass⟩ hroom, State.newFrameSlot_of_held hheld hpolicy,
    State.issue_eq (g := g) (tag := tag) (e := e) (h := h)]
  case hg => exact hg
  case htag => exact htag
  case hc => exact hc
  rw [State.issueTo, State.sendNew, Ltx.takeIn_eq, requestFrame_eq, Hrt.issue, Hrt.setHeld_of_some (h := h)]
  case he => exact he
  rfl

/-! ### Control frames and the replay pass -/

theorem exec_sendNk_due (hreset : s.resetN = true) (hl : s.ltc.link = .active) {n : BitVec 7}
    (hnk : s.ltx.nkDue = some n) :
    exec .sendNk s = .next ({ s with ltx := { s.ltx with nkDue := none } }.send (nkFrame n)) := by
  have choice : s.activeChoice = some (.nk n) := by rw [State.activeChoice, if_pos hl, Ltx.choice, hnk]
  rw [exec_sendNk, execSendNk, State.powered_high hreset]
  simp only [choice]

theorem exec_sendAk_due (hreset : s.resetN = true) (hl : s.ltc.link = .active) (hnk : s.ltx.nkDue = none)
    (hak : s.ltx.akDue = true) :
    exec .sendAk s = .next
      ({ s with
          ltx := { s.ltx with akDue := false }
          lrx := { s.lrx with coalescing := 0, ackDelayTimer := none } }.send (akFrame s.lrx.lastGood)) := by
  have choice : s.activeChoice = some .ak := by
    rw [State.activeChoice, if_pos hl, Ltx.choice, hnk]
    simp only [hak, if_true]
  rw [exec_sendAk, execSendAk, State.powered_high hreset, if_pos choice]

theorem exec_replayPassResend_running (hreset : s.resetN = true) (hl : s.ltc.link = .active) (hnk : s.ltx.nkDue = none)
    (hak : s.ltx.akDue = false) {p : BitVec 7} (hpass : s.ltx.pass = some p) :
    exec .replayPassResend s = .next (s.resend p) := by
  have choice : s.activeChoice = some (.resend p) := by
    rw [State.activeChoice, if_pos hl, Ltx.choice, hnk]
    simp only [hak, hpass, Bool.false_eq_true, if_false]
  rw [exec_replayPassResend, execReplayPassResend, State.powered_high hreset]
  simp only [choice]

/-- The frame at the pass position goes out, and the position moves on (R108). -/
theorem State.resend_of_split {old rest : List SentFrame} {f : SentFrame} (hb : s.ltx.buffer = old ++ f :: rest)
    (hold : ∀ g ∈ old, g.number ≠ f.number) :
    s.resend f.number =
      { s with
        ltx := { s.ltx with
          pass := rest.head?.map SentFrame.number
          replayTimer := if rest = [] then some (s.ltx.replayInterval.toNat * 4) else s.ltx.replayTimer }
        tx := .frame f.bytes } := by
  have left : s.ltx.buffer.dropWhile (fun g => g.number != f.number) = f :: rest := by
    rw [hb, List.dropWhile_append_of_pos fun g hg => bne_iff_ne.mpr (hold g hg), List.dropWhile_cons_of_neg (by simp)]
  cases rest with
  | nil =>
    simp only [State.resend, left]
    rfl
  | cons g rest =>
    simp only [State.resend, left]
    rfl

/-! ### Training frames -/

theorem exec_sendSk_seek (hreset : s.resetN = true) (hl : s.ltc.link = .seek) :
    exec .sendSk s = .next (s.send (skFrame s.ltc.current)) :=
  (State.powered_high hreset _).trans (congrArg _ (if_pos hl))

theorem exec_sendAl_align (hreset : s.resetN = true) (hl : s.ltc.link = .align) :
    exec .sendAl s =
      .next ({ s with ltx := { s.ltx with alignIndex := s.ltx.alignIndex + 1 } }.send (alFrame s.ltx.alignIndex)) :=
  (State.powered_high hreset _).trans (congrArg _ (if_pos hl))

theorem exec_sendPm_exchange (hreset : s.resetN = true) (hl : s.ltc.link = .exchange) :
    exec .sendPm s = .next (s.send (pmFrame s.ltc.ourSession s.ltc.current 0 0)) :=
  (State.powered_high hreset _).trans (congrArg _ (if_pos hl))

/-- A grade in two bits, as the byte of a frame that holds it. -/
def gradeByte (g : Grade) : Byte := 0#6 ++ gradeBits g

theorem byte0_skGrade : ∀ g : Grade, byte0 0xC (0#2 ++ gradeBits g) = 0xC0 + gradeByte g := by
  intro g
  cases g <;> decide

theorem byte0_pmSession : ∀ n : BitVec 4, byte0 0xE n = 0xE0 + n.setWidth 8 := by decide

theorem numberByte_eq : ∀ n : BitVec 7, numberByte n = n.setWidth 8 := by decide

/-- Settles O50: the transmit choice leads to each control frame, and the link state to each training frame. -/
theorem controlReplayedAndTrainingFramesSent : Obligations.ControlReplayedAndTrainingFramesSent := by
  refine ⟨fun s hreset hl => ⟨fun n hnk => ?nk, fun hnk hak => ?ak, fun hnk hak old rest f hb hpass hold => ?resend⟩,
    fun s grade hreset hgrade => ?training⟩
  case nk =>
    rw [exec_sendNk_due hreset hl hnk, nkFrame, numberByte_eq]
    rfl
  case ak =>
    rw [exec_sendAk_due hreset hl hnk hak, akFrame, numberByte_eq]
    rfl
  case resend => rw [exec_replayPassResend_running hreset hl hnk hak hpass, State.resend_of_split hb hold]
  case training =>
    obtain rfl : grade = gradeByte s.ltc.current := by
      rcases hgrade with ⟨hg, rfl⟩ | ⟨hg, rfl⟩ | ⟨hg, rfl⟩ | ⟨hg, rfl⟩ <;> (rw [hg]; rfl)
    refine ⟨fun hl => ?_, fun hl => ?_, fun hl => ?_, fun hl => State.powered_of_same (if_neg hl),
      fun hl => State.powered_of_same (if_neg hl), fun hl => State.powered_of_same (if_neg hl)⟩
    · rw [exec_sendSk_seek hreset hl, skFrame, byte0_skGrade]
      rfl
    · rw [exec_sendAl_align hreset hl]
      rfl
    · rw [exec_sendPm_exchange hreset hl, pmFrame, byte0_pmSession]
      rfl

end Sys2Proof.Machine
end

section
/-! SUPPORT. What the registers show: the fields of Table 9-3 side by side, with zeros between them. -/

namespace Sys2Proof.Machine

variable {s : State}

/-! ### Fields side by side -/

/-- Two fields side by side are the lower one and, above it, the upper one. -/
@[simp] theorem place_append {v w : Nat} (lo : Nat) (x : BitVec w) (y : BitVec v) :
    place lo (no_index (x ++ y)) = place lo y ||| place (lo + v) x := by
  apply BitVec.eq_of_getLsbD_eq
  intro i hi
  rw [BitVec.getLsbD_or, getLsbD_place, getLsbD_place, getLsbD_place, BitVec.getLsbD_append]
  by_cases hlo : lo ≤ i
  · by_cases hv : i - lo < v
    · have above : ¬ lo + v ≤ i := by omega
      simp [hi, hlo, hv, above]
    · have above : lo + v ≤ i := by omega
      simp [hi, hlo, hv, above, Nat.sub_sub, BitVec.getLsbD_of_ge y (i - lo) (Nat.not_lt.mp hv)]
  · have above : ¬ lo + v ≤ i := by omega
    simp [hlo, above]

@[simp] theorem place_zeros (lo k : Nat) : place lo 0#k = 0#32 := by
  rw [place, BitVec.setWidth_zero, BitVec.zero_shiftLeft]

@[simp] theorem placeNat_eq_place (lo w n : Nat) : placeNat lo w n = place lo (BitVec.ofNat w n) := rfl

@[simp] theorem flagBit_eq_ofBool (b : Bool) : flagBit b = BitVec.ofBool b := rfl

/-- A register whose fields are placed as the fields of `x` are reads as `x`. -/
theorem State.registerRead_shows {r : Register} {x : Word} (hreset : s.resetN = true)
    (h : s.readRegister r = place 0 x) : s.registerRead (BitVec.ofNat 12 r.offset) 4 = some x := by
  have aligned : (BitVec.ofNat 12 r.offset).toNat % 4 = 0 := by
    rw [r.toNat_offset]
    exact r.offset_mod_four
  have here : registerAt (BitVec.ofNat 12 r.offset).toNat = some r := by
    rw [r.toNat_offset]
    exact registerAt_offset r
  rw [State.registerRead_assigned hreset aligned here, h, place_zero, BitVec.setWidth_eq]

/-! ### REG and the link -/

theorem State.readRegister_generalControl (s : State) :
    s.readRegister .generalControl = place 0
      (0#30 ++ BitVec.ofBool s.reg.intakeHold ++ BitVec.ofBool (decide (s.reg.policy = .alternate))) := by
  have bit : policyBit s.reg.policy = BitVec.ofBool (decide (s.reg.policy = .alternate)) := by
    cases s.reg.policy <;> rfl
  simp [State.readRegister, bit]

theorem State.readRegister_tbdiv (s : State) : s.readRegister .tbdiv = place 0 (0#24 ++ s.reg.tbdiv) := by
  simp [State.readRegister]

/-- The code and the acceptance of the last command show as zeros while there has been none. -/
theorem State.readRegister_linkStatus (s : State) :
    s.readRegister .linkStatus = place 0
      (0#4 ++ BitVec.ofNat 4 s.ltc.attempts ++ 0#3 ++ BitVec.ofBool (s.ltc.command.any CommandStatus.accepted) ++
        (s.ltc.command.map CommandStatus.code).getD 0 ++ 0#1 ++ reasonCode s.ltc.lastReason ++ 0#2 ++
        linkFailureCode s.ltc.failure ++ 0#3 ++ BitVec.ofBool s.ltc.trial ++ 0#1 ++ linkCode s.ltc.link) := by
  cases hc : s.ltc.command with
  | none => simp [State.readRegister, hc, BitVec.or_assoc]
  | some c =>
    have swapped := BitVec.or_comm (place 24 (BitVec.ofNat 4 s.ltc.attempts))
      (place 16 c.code ||| place 20 (BitVec.ofBool c.accepted))
    rw [BitVec.or_assoc] at swapped
    simp [State.readRegister, hc, BitVec.or_assoc, swapped]

theorem State.readRegister_grades (s : State) :
    s.readRegister .grades = place 0
      (0#21 ++ gradeNumber s.ltc.lastGood ++ 0#1 ++ gradeNumber s.ltc.current ++ 0#1 ++ gradeNumber s.ltc.staged) := by
  simp [State.readRegister, BitVec.or_assoc]

theorem State.readRegister_trainingControls (s : State) :
    s.readRegister .trainingControls = place 0
      (0#8 ++ s.ltc.alignCount ++ 0#3 ++ BitVec.ofBool s.ltc.lockBypass ++ s.ltc.attemptLimit ++ s.ltc.seekWindow) := by
  simp [State.readRegister, BitVec.or_assoc]

theorem State.readRegister_sessions (s : State) :
    s.readRegister .sessions = place 0 (0#20 ++ s.ltc.partnerSession ++ 0#4 ++ s.ltc.ourSession) := by
  simp [State.readRegister]

theorem State.readRegister_recordedOffers (s : State) :
    s.readRegister .recordedOffers = place 0
      (0#9 ++ BitVec.ofNat 7 s.ltc.writeOffer ++ 0#10 ++ BitVec.ofNat 6 s.ltc.requestOffer) := by
  simp [State.readRegister]

theorem State.readRegister_retryControls (s : State) :
    s.readRegister .retryControls = place 0
      (0#17 ++ s.ltx.longLimit ++ 0#1 ++ s.ltx.shortLimit ++ s.ltx.replayInterval) := by
  simp [State.readRegister, BitVec.or_assoc]

theorem State.readRegister_transmitStatus (s : State) :
    s.readRegister .transmitStatus = place 0
      (0#9 ++ BitVec.ofNat 3 s.ltx.longRetry ++ 0#1 ++ BitVec.ofNat 3 s.ltx.shortRetry ++
        BitVec.ofBool s.ltx.pass.isSome ++ 0#1 ++ BitVec.ofNat 6 s.ltx.buffer.length ++ 0#1 ++ s.ltx.next) := by
  simp [State.readRegister, BitVec.or_assoc]

theorem State.readRegister_replayCounter (s : State) :
    s.readRegister .replayCounter = place 0 (0#15 ++ BitVec.ofBool s.ltx.wrapFlag ++ s.ltx.replayCounter) := by
  simp [State.readRegister]

theorem State.readRegister_ackControls (s : State) :
    s.readRegister .ackControls = place 0
      (0#12 ++ s.lrx.lineLossThreshold ++ 0#2 ++ s.lrx.ackDelay ++ 0#3 ++ s.lrx.ackCount) := by
  simp [State.readRegister, BitVec.or_assoc]

theorem State.readRegister_receiveStatus (s : State) :
    s.readRegister .receiveStatus = place 0 (0#20 ++ BitVec.ofNat 4 s.lrx.lineLossRun ++ 0#1 ++ s.lrx.expected) := by
  simp [State.readRegister]

/-! ### The windows and the requesters -/

theorem State.readRegister_windowControl (s : State) (w : Fin 8) :
    s.readRegister (.windowControl w) = place 0
      (0#19 ++ BitVec.ofNat 5 s.win[w].sizeCode.val ++ 0#2 ++ s.win[w].segment ++ 0#2 ++ modeCode s.win[w].mode) := by
  simp [State.readRegister, BitVec.or_assoc]

theorem State.readRegister_windowBase (s : State) (w : Fin 8) :
    s.readRegister (.windowBase w) = place 0 (0#4 ++ s.win[w].base) := by
  simp [State.readRegister]

theorem State.readRegister_remoteBaseLow (s : State) (w : Fin 8) :
    s.readRegister (.remoteBaseLow w) = place 0 (s.win[w].remoteBase.extractLsb' 0 32) := by
  simp [State.readRegister, place_zero]

theorem State.readRegister_remoteBaseHigh (s : State) (w : Fin 8) :
    s.readRegister (.remoteBaseHigh w) = place 0 (0#24 ++ s.win[w].remoteBase.extractLsb' 32 8) := by
  simp [State.readRegister]

theorem State.readRegister_requesterRecord (s : State) (r : Fin 8) :
    s.readRegister (.requesterRecord r) = place 0
      (0#11 ++ BitVec.ofBool s.hrt.requesters[r].lapsed ++ BitVec.ofNat 4 s.hrt.requesters[r].discardRun ++ 0#1 ++
        BitVec.ofNat 3 s.hrt.requesters[r].heldCount ++ 0#5 ++ s.hrt.requesters[r].heldLimit ++ 0#3 ++
        BitVec.ofBool (decide (s.hrt.requesters[r].level = .b))) := by
  have bit : levelBit s.hrt.requesters[r].level = BitVec.ofBool (decide (s.hrt.requesters[r].level = .b)) := by
    cases s.hrt.requesters[r].level <;> rfl
  simp only [State.readRegister, bit]
  simp [BitVec.or_assoc]

theorem State.readRegister_discardInterval (s : State) :
    s.readRegister .discardInterval = place 0 (0#24 ++ s.hrt.discardInterval) := by
  simp [State.readRegister]

theorem State.readRegister_lapseThreshold (s : State) :
    s.readRegister .lapseThreshold = place 0 (0#28 ++ s.hrt.lapseThreshold) := by
  simp [State.readRegister]

theorem State.readRegister_discardCount (s : State) :
    s.readRegister .discardCount = place 0 (0#16 ++ BitVec.ofNat 16 s.hrt.discardCount) := by
  simp [State.readRegister]

/-! ### The view of an entry -/

/-- Which state, tag and cause the view of an entry shows in each phase. -/
def Phase.shows (p : Phase) (state : BitVec 3) (tag : BitVec 5) (cause : BitVec 3) : Prop :=
  (∃ n, p = .queued n ∧ state = 1 ∧ tag = 0 ∧ cause = 0) ∨
    (∃ (u : Fin 32) (n : Nat), p = .issued u n ∧ state = 2 ∧ tag = BitVec.ofNat 5 u.val ∧ cause = 0) ∨
    (∃ d n, p = .ready d n ∧ state = 3 ∧ tag = 0 ∧ cause = 0) ∨
    (∃ f n, p = .failed f n ∧ state = 4 ∧ tag = 0 ∧ cause = failCauseCode f)

/-- The tag that the view of an entry shows. -/
def Phase.tagShown : Phase → BitVec 5
  | .issued u _ => BitVec.ofNat 5 u.val
  | _ => 0

/-- The failure cause that the view of an entry shows. -/
def Phase.causeShown : Phase → BitVec 3
  | .failed f _ => failCauseCode f
  | _ => 0

theorem Phase.eq_of_shows {p : Phase} {state : BitVec 3} {tag : BitVec 5} {cause : BitVec 3}
    (h : p.shows state tag cause) : state = phaseCode p ∧ tag = p.tagShown ∧ cause = p.causeShown := by
  rcases h with ⟨n, rfl, shown⟩ | ⟨u, n, rfl, shown⟩ | ⟨d, n, rfl, shown⟩ | ⟨f, n, rfl, shown⟩
  all_goals exact shown

theorem entryView_some (h : Held) :
    entryView (some h) = place 0
      (0#5 ++ h.phase.causeShown ++ 0#3 ++ h.phase.tagShown ++ 0#1 ++ BitVec.ofNat 3 h.window.val ++ 0#1 ++
        BitVec.ofNat 3 h.order ++ 0#1 ++ BitVec.ofNat 3 h.requester.val ++ BitVec.ofBool (decide (h.kind ≠ .read)) ++
        phaseCode h.phase) := by
  obtain ⟨kind, requester, offset, size, window, remote, segment, order, phase⟩ := h
  cases phase <;> cases kind <;>
    simp [entryView, Phase.causeShown, Phase.tagShown, BitVec.or_assoc]

theorem State.registerRead_entryView (hreset : s.resetN = true) (e : Fin 16) :
    (s.hrt.entries[e] = none → s.registerRead (BitVec.ofNat 12 (0x140 + 4 * e.val)) 4 = some 0) ∧
      ∀ (h : Held) (state : BitVec 3) (tag : BitVec 5) (cause : BitVec 3), s.hrt.entries[e] = some h →
        h.phase.shows state tag cause →
        s.registerRead (BitVec.ofNat 12 (0x140 + 4 * e.val)) 4 = some
          (0#5 ++ cause ++ 0#3 ++ tag ++ 0#1 ++ BitVec.ofNat 3 h.window.val ++ 0#1 ++ BitVec.ofNat 3 h.order ++
            0#1 ++ BitVec.ofNat 3 h.requester.val ++ BitVec.ofBool (decide (h.kind ≠ .read)) ++ state) := by
  have view : s.readRegister (.entryView e) = entryView s.hrt.entries[e] := rfl
  refine ⟨fun empty => ?_, fun h state tag cause held hshows => ?_⟩
  · exact State.registerRead_shows hreset (r := .entryView e) (by rw [view, empty]; rfl)
  · obtain ⟨rfl, rfl, rfl⟩ := Phase.eq_of_shows hshows
    exact State.registerRead_shows hreset (r := .entryView e) (by rw [view, held, entryView_some])

/-! ### The issue unit -/

theorem State.readRegister_completionTimeout (s : State) :
    s.readRegister .completionTimeout = place 0 (0#24 ++ s.isu.completionTimeout) := by
  simp [State.readRegister]

theorem State.readRegister_allowanceAndOffer (s : State) :
    s.readRegister .allowanceAndOffer = place 0
      (0#9 ++ BitVec.ofNat 7 s.isu.writeOffer ++ 0#10 ++ BitVec.ofNat 6 s.isu.allowance) := by
  simp [State.readRegister]

theorem Isu.freeTags_eq_countP (u : Isu) :
    u.freeTags = (List.finRange 32).countP fun t => decide (u.tags[t] = .free ∧ t.val < u.allowance) := by
  rw [Isu.freeTags, List.countP_eq_length_filter]
  refine congrArg (fun p => (List.filter p (List.finRange 32)).length) (funext fun t => ?_)
  rw [Bool.decide_and, Bool.beq_eq_decide_eq]

theorem State.readRegister_freeTagsAndCredits (s : State) :
    s.readRegister .freeTagsAndCredits = place 0
      (0#9 ++ BitVec.ofNat 7 (s.isu.writeOffer - (s.isu.sent - s.isu.returned).toNat) ++ 0#10 ++
        BitVec.ofNat 6
          ((List.finRange 32).countP fun u => decide (s.isu.tags[u] = .free ∧ u.val < s.isu.allowance))) := by
  rw [← Isu.freeTags_eq_countP]
  simp [State.readRegister, Isu.creditsAvailable, Isu.creditsInUse]

/-- Flags that a walk over numbers sets, one bit for each number. -/
theorem getLsbD_foldl_flags (p : Fin 32 → Bool) (u : Fin 32) (l : List (Fin 32)) (x : Word) :
    (l.foldl (fun acc t => if p t then acc ||| 1#32 <<< t.val else acc) x).getLsbD u.val =
      (x.getLsbD u.val || decide (u ∈ l ∧ p u)) := by
  induction l generalizing x with
  | nil => simp
  | cons t l ih =>
    rw [List.foldl_cons, ih]
    have bit : (1#32 <<< t.val).getLsbD u.val = decide (u = t) := by
      rw [← BitVec.twoPow_eq, BitVec.getLsbD_twoPow, decide_eq_true t.isLt, Bool.true_and]
      exact decide_eq_decide.mpr (eq_comm.trans Fin.ext_iff.symm)
    cases hp : p t with
    | false =>
      have other : u = t → p u = false := fun hu => hu ▸ hp
      rw [if_neg Bool.false_ne_true]
      refine congrArg (x.getLsbD u.val || ·) (decide_eq_decide.mpr ?_)
      grind
    | true =>
      have same : u = t → p u = true := fun hu => hu ▸ hp
      rw [if_pos rfl, BitVec.getLsbD_or, bit, Bool.or_assoc, ← Bool.decide_or]
      refine congrArg (x.getLsbD u.val || ·) (decide_eq_decide.mpr ?_)
      grind

theorem getLsbD_quarantineFlags (tags : Vector TagState 32) (u : Fin 32) :
    (quarantineFlags tags).getLsbD u.val = decide (tags[u] = .quarantined) := by
  rw [quarantineFlags, getLsbD_foldl_flags (fun t => tags[t] == .quarantined)]
  simp [List.mem_finRange]

theorem State.readRegister_occupancyAndLost (s : State) :
    s.readRegister .occupancyAndLost = place 0
      (BitVec.ofNat 16 s.pwq.lostWrites ++ 0#11 ++ BitVec.ofNat 5 s.pwq.queue.length) := by
  simp [State.readRegister]

end Sys2Proof.Machine
end

section
/-! SUPPORT. What the registers of the event unit show, the map and the reset values, and the obligation about the
register map (O7). -/

namespace Sys2Proof.Machine

variable {s : State}

/-! ### Causes -/

theorem State.readRegister_remotePending (s : State) :
    s.readRegister .remotePending = place 0 (0#16 ++ s.evu.remotePending) := by
  simp [State.readRegister]

theorem State.readRegister_remoteEnable (s : State) :
    s.readRegister .remoteEnable = place 0 (0#16 ++ s.evu.remoteEnable) := by
  simp [State.readRegister]

theorem State.readRegister_remoteRoute (s : State) :
    s.readRegister .remoteRoute = place 0 (0#16 ++ s.evu.remoteRoute) := by
  simp [State.readRegister]

theorem State.readRegister_localPending (s : State) :
    s.readRegister .localPending = place 0 (0#24 ++ s.evu.localPending) := by
  simp [State.readRegister]

theorem State.readRegister_localEnable (s : State) :
    s.readRegister .localEnable = place 0 (0#24 ++ s.evu.localEnable) := by
  simp [State.readRegister]

theorem State.readRegister_localRoute (s : State) :
    s.readRegister .localRoute = place 0 (0#24 ++ s.evu.localRoute) := by
  simp [State.readRegister]

/-! ### Repeat counts -/

/-- Of two fields of four bits, each shows at its own place and not at the other's. -/
theorem extractLsb'_place_nibble (x : BitVec 4) (i : Nat) {n : Nat} (hn : n < 8) :
    (place (4 * i) x).extractLsb' (4 * n) 4 = if n = i then x else 0#4 := by
  apply BitVec.eq_of_getLsbD_eq
  intro k hk
  have inWord : 4 * n + k < 32 := by omega
  rw [BitVec.getLsbD_extractLsb', getLsbD_place, decide_eq_true hk, decide_eq_true inWord, Bool.true_and, Bool.true_and]
  by_cases hni : n = i
  · subst hni
    rw [if_pos rfl, decide_eq_true (Nat.le_add_right _ _), Bool.true_and, Nat.add_sub_cancel_left]
  · rw [if_neg hni]
    by_cases hlo : 4 * i ≤ 4 * n + k
    · rw [x.getLsbD_of_ge _ (by omega), Bool.and_false, BitVec.getLsbD_zero]
    · rw [decide_eq_false hlo, Bool.false_and, BitVec.getLsbD_zero]

/-- Counts shown side by side, four bits each. -/
theorem extractLsb'_foldl_nibbles (f : Nat → BitVec 4) (m : Nat) {n : Nat} (hn : n < 8) :
    ((List.range m).foldl (fun acc i => acc ||| place (4 * i) (f i)) 0).extractLsb' (4 * n) 4 =
      if n < m then f n else 0#4 := by
  induction m with
  | zero => simp
  | succ m ih =>
    rw [List.range_succ, List.foldl_append, List.foldl_cons, List.foldl_nil, BitVec.extractLsb'_or, ih,
      extractLsb'_place_nibble _ _ hn]
    by_cases hlt : n < m
    · rw [if_pos hlt, if_neg (Nat.ne_of_lt hlt), if_pos (Nat.lt_succ_of_lt hlt), BitVec.or_zero]
    · by_cases heq : n = m
      · subst heq
        rw [if_neg hlt, if_pos rfl, if_pos (Nat.lt_succ_self n), BitVec.zero_or]
      · rw [if_neg hlt, if_neg heq, if_neg (by omega), BitVec.or_zero]

theorem extractLsb'_repeatFlags (counts : Vector Nat 16) (first : Nat) (n : Fin 8) :
    (repeatFlags counts first).extractLsb' (4 * n.val) 4 = BitVec.ofNat 4 (counts.toList.getD (first + n.val) 0) := by
  have shown := extractLsb'_foldl_nibbles (fun i => BitVec.ofNat 4 (counts.toList.getD (first + i) 0)) 8 n.isLt
  rwa [if_pos n.isLt] at shown

theorem getD_toList (counts : Vector Nat 16) {n : Nat} (hn : n < 16) : counts.toList.getD n 0 = counts[n] := by
  rw [List.getD_eq_getElem?_getD, List.getElem?_eq_getElem (by simpa using hn), Option.getD_some, Vector.getElem_toList]

/-! ### The fault record -/

/-- A field that is absent shows as the value whose fields are all 0. -/
theorem faultField_eq {α : Type} {e : Evu} {get : FaultRecord → Option α} {show_ : α → Word} {d : α}
    (hd : show_ d = 0) :
    faultField e get show_ = show_ ((e.fault.bind get).getD d) := by
  rw [faultField]
  cases e.fault.bind get with
  | none => exact hd.symm
  | some x => rfl

theorem State.readRegister_faultKind (s : State) :
    s.readRegister .faultKind = place 0
      (0#16 ++ BitVec.ofNat 8 s.evu.laterCount ++ 0#3 ++ (s.evu.fault.map fun r => faultCode r.kind).getD 0) := by
  cases h : s.evu.fault with
  | none => simp [State.readRegister, h]
  | some r => simp [State.readRegister, h]

theorem State.readRegister_faultPresence (s : State) :
    s.readRegister .faultPresence = place 0
      (0#25 ++ BitVec.ofBool (s.evu.fault.bind FaultRecord.detail).isSome ++
        BitVec.ofBool (s.evu.fault.bind FaultRecord.remote).isSome ++
        BitVec.ofBool (s.evu.fault.bind FaultRecord.tag).isSome ++
        BitVec.ofBool (s.evu.fault.bind FaultRecord.entry).isSome ++
        BitVec.ofBool (s.evu.fault.bind FaultRecord.window).isSome ++
        BitVec.ofBool (s.evu.fault.bind FaultRecord.offset).isSome ++
        BitVec.ofBool (s.evu.fault.bind FaultRecord.requester).isSome) := by
  cases h : s.evu.fault with
  | none => simp [State.readRegister, h, presenceFlags]
  | some r => simp [State.readRegister, h, presenceFlags, BitVec.or_assoc]

theorem State.readRegister_faultOrigin (s : State) :
    s.readRegister .faultOrigin = place 0
      (0#11 ++ BitVec.ofNat 5 ((s.evu.fault.bind FaultRecord.tag).getD 0).val ++ 0#4 ++
        BitVec.ofNat 4 ((s.evu.fault.bind FaultRecord.entry).getD 0).val ++ 0#1 ++
        BitVec.ofNat 3 ((s.evu.fault.bind FaultRecord.window).getD 0).val ++ 0#1 ++
        BitVec.ofNat 3 ((s.evu.fault.bind FaultRecord.requester).getD 0).val) := by
  rw [State.readRegister, faultField_eq (d := 0) (by rfl), faultField_eq (d := 0) (by rfl),
    faultField_eq (d := 0) (by rfl), faultField_eq (d := 0) (by rfl)]
  simp [BitVec.or_assoc]

theorem State.readRegister_faultOffset (s : State) :
    s.readRegister .faultOffset = place 0 (0#4 ++ (s.evu.fault.bind FaultRecord.offset).getD 0) := by
  rw [State.readRegister, faultField_eq (d := 0) (by rfl)]
  simp

theorem State.readRegister_faultRemoteLow (s : State) :
    s.readRegister .faultRemoteLow =
      place 0 (((s.evu.fault.bind FaultRecord.remote).getD (0, 0)).1.extractLsb' 0 32) := by
  rw [State.readRegister, faultField_eq (d := (0, 0)) rfl, place_zero, BitVec.setWidth_eq]

theorem State.readRegister_faultRemoteHigh (s : State) :
    s.readRegister .faultRemoteHigh = place 0
      (0#22 ++ ((s.evu.fault.bind FaultRecord.remote).getD (0, 0)).2 ++
        ((s.evu.fault.bind FaultRecord.remote).getD (0, 0)).1.extractLsb' 32 8) := by
  rw [State.readRegister, faultField_eq (d := (0, 0)) rfl]
  simp

theorem State.readRegister_faultDetail (s : State) :
    s.readRegister .faultDetail = place 0 (0#16 ++ (s.evu.fault.bind FaultRecord.detail).getD 0) := by
  rw [State.readRegister, faultField_eq (d := 0) (by rfl)]
  simp

/-! ### The map -/

theorem forall_register {P : Register → Prop} (h : ∀ r ∈ allRegisters, P r) (r : Register) : P r :=
  h r r.mem_allRegisters

theorem State.registerRead_unassigned {o : BitVec 12} (hreset : s.resetN = true) (haligned : o.toNat % 4 = 0)
    (hnone : registerAt o.toNat = none) : s.registerRead o 4 = some 0 := by
  rw [State.registerRead_taken hreset haligned, hnone]
  rfl

/-- Settles O7: the map is searched, the reset state is read register by register, and each register's value is its
fields placed side by side. -/
theorem registerMapAndResetValues : Obligations.RegisterMapAndResetValues := by
  refine ⟨forall_register ?resetValues, fun r => ⟨registerAt_offset r, r.offset_mod_four, r.offset_lt⟩,
    fun o r => offset_of_registerAt, fun s o => State.registerRead_unassigned,
    ⟨rfl, rfl, rfl, rfl, rfl, rfl⟩, ⟨rfl, rfl, rfl⟩, ⟨rfl, rfl, rfl, rfl, rfl⟩, ⟨rfl, rfl, rfl, rfl⟩,
    ⟨rfl, rfl, rfl, rfl⟩, ⟨rfl, rfl, rfl, rfl, rfl⟩, rfl, fun s hreset => ?values⟩
  case resetValues => decide +kernel
  case values =>
    have shows (r : Register) {x : Word} (h : s.readRegister r = place 0 x) := State.registerRead_shows hreset h
    have assigned (r : Register) : s.registerRead (BitVec.ofNat 12 r.offset) 4 = some (s.readRegister r) :=
      shows r (by rw [place_zero, BitVec.setWidth_eq])
    refine ⟨⟨assigned .functionResetCommand, assigned .linkCommand, assigned .faultClear⟩,
      shows .generalControl s.readRegister_generalControl, shows .tbdiv s.readRegister_tbdiv,
      shows .linkStatus s.readRegister_linkStatus, shows .grades s.readRegister_grades,
      shows .trainingControls s.readRegister_trainingControls, shows .sessions s.readRegister_sessions,
      shows .recordedOffers s.readRegister_recordedOffers, shows .retryControls s.readRegister_retryControls,
      shows .transmitStatus s.readRegister_transmitStatus, shows .replayCounter s.readRegister_replayCounter,
      shows .ackControls s.readRegister_ackControls, shows .receiveStatus s.readRegister_receiveStatus,
      fun w => ⟨shows (.windowControl w) (s.readRegister_windowControl w),
        shows (.windowBase w) (s.readRegister_windowBase w),
        shows (.remoteBaseLow w) (s.readRegister_remoteBaseLow w),
        shows (.remoteBaseHigh w) (s.readRegister_remoteBaseHigh w)⟩,
      fun r => shows (.requesterRecord r) (s.readRegister_requesterRecord r),
      shows .discardInterval s.readRegister_discardInterval, shows .lapseThreshold s.readRegister_lapseThreshold,
      shows .discardCount s.readRegister_discardCount, fun e => State.registerRead_entryView hreset e,
      shows .completionTimeout s.readRegister_completionTimeout,
      shows .allowanceAndOffer s.readRegister_allowanceAndOffer,
      shows .freeTagsAndCredits s.readRegister_freeTagsAndCredits,
      ⟨_, assigned .quarantineSet, getLsbD_quarantineFlags s.isu.tags⟩,
      shows .occupancyAndLost s.readRegister_occupancyAndLost,
      shows .remotePending s.readRegister_remotePending, shows .remoteEnable s.readRegister_remoteEnable,
      shows .remoteRoute s.readRegister_remoteRoute, shows .localPending s.readRegister_localPending,
      shows .localEnable s.readRegister_localEnable, shows .localRoute s.readRegister_localRoute,
      ⟨_, _, assigned .repeatCounts0to7, assigned .repeatCounts8to15, fun n => ⟨?low, ?high⟩⟩,
      shows .faultKind s.readRegister_faultKind, shows .faultPresence s.readRegister_faultPresence,
      shows .faultOrigin s.readRegister_faultOrigin, shows .faultOffset s.readRegister_faultOffset,
      shows .faultRemoteLow s.readRegister_faultRemoteLow, shows .faultRemoteHigh s.readRegister_faultRemoteHigh,
      shows .faultDetail s.readRegister_faultDetail⟩
    case low =>
      have shown := extractLsb'_repeatFlags s.evu.remoteRepeat 0 n
      rwa [Nat.zero_add, getD_toList s.evu.remoteRepeat (by omega)] at shown
    case high =>
      have shown := extractLsb'_repeatFlags s.evu.remoteRepeat 8 n
      rw [Nat.add_comm 8 n.val] at shown
      rwa [getD_toList s.evu.remoteRepeat (by omega)] at shown

end Sys2Proof.Machine
end

section
/-! SUPPORT. The receiver over the symbols of a frame: what each step takes, and what a whole run of them ends in. -/

namespace Sys2Proof.Machine

variable {s : State}

/-! ### Steps that take a symbol -/

/-- The state that has received `bytes` of a frame and has `line` still to come. -/
def State.receiving (s : State) (bytes : List Byte) (line : List LineSymbol) : State :=
  { s with rxLine := line, lrx := { s.lrx with framing := some bytes } }

/-- The state outside frames that a command has arrived at. -/
def State.arrived (s : State) (c : Instr) (line : List LineSymbol) : State := { s with rxLine := line, pending := [c] }

theorem run_of_step {t : State} (n : Nat) (h : step s = .next t) :
    Host.Core.run Sys2Proof.core (n + 1) s = Host.Core.run Sys2Proof.core n t := by
  have first : Sys2Proof.core.step s = .next t := h
  simp only [Host.Core.run, first]

theorem step_start {later : List LineSymbol} (hreset : s.resetN = true) (hpending : s.pending = [])
    (hline : s.rxLine = .start :: later) :
    step s = .next
      { s with
        rxLine := later
        lrx := { s.lrx with framing := some [] }
        pending := (if s.lrx.framing.isSome then some Instr.corruptFrameReceived else none).toList } := by
  have idle : s.idle = { s with rxLine := later }.takeSymbol .start := by rw [State.idle, hline]
  rw [step_of_empty hpending, idle, State.takeSymbol_high (s := { s with rxLine := later }) hreset]
  simp only [hpending, List.nil_append]
  rfl

theorem step_byte {b : Byte} {later : List LineSymbol} (hreset : s.resetN = true) (hpending : s.pending = [])
    (hline : s.rxLine = .byte b :: later) :
    step s = .next
      { s with
        rxLine := later
        lrx := { s.lrx with framing := (receiveSymbol s.lrx.framing (.byte b)).1 }
        pending := (receiveSymbol s.lrx.framing (.byte b)).2.toList } := by
  have idle : s.idle = { s with rxLine := later }.takeSymbol (.byte b) := by rw [State.idle, hline]
  rw [step_of_empty hpending, idle, State.takeSymbol_high (s := { s with rxLine := later }) hreset]
  simp only [hpending, List.nil_append]

section Outside
variable (hreset : s.resetN = true) (hpending : s.pending = []) (hframing : s.lrx.framing = none)
include hreset hpending hframing

/-- A start marker outside a frame begins one. -/
theorem step_start_outside {later : List LineSymbol} (hline : s.rxLine = .start :: later) :
    step s = .next (s.receiving [] later) := by
  have nothing : ((if s.lrx.framing.isSome then some Instr.corruptFrameReceived else none).toList) = s.pending := by
    rw [hframing, hpending]
    rfl
  rw [step_start hreset hpending hline, nothing]
  rfl

/-- A byte outside a frame is dropped. -/
theorem step_byte_outside {b : Byte} {later : List LineSymbol} (hline : s.rxLine = .byte b :: later) :
    step s = .next { s with rxLine := later } := by
  have stays : (receiveSymbol s.lrx.framing (.byte b)).1 = s.lrx.framing := by rw [hframing]; rfl
  have nothing : (receiveSymbol s.lrx.framing (.byte b)).2.toList = s.pending := by rw [hframing, hpending]; rfl
  rw [step_byte hreset hpending hline, stays, nothing]

end Outside

/-- A byte inside a frame does what the receiver does with it. -/
theorem step_receiving (hreset : s.resetN = true) (hpending : s.pending = []) (bytes : List Byte) (b : Byte)
    (later : List LineSymbol) :
    step (s.receiving bytes (.byte b :: later)) = .next
      { s with
        rxLine := later
        lrx := { s.lrx with framing := (receiveSymbol (some bytes) (.byte b)).1 }
        pending := (receiveSymbol (some bytes) (.byte b)).2.toList } :=
  step_byte (s := s.receiving bytes (.byte b :: later)) hreset hpending rfl

/-! ### What the receiver does with a byte inside a frame -/

/-- The bytes do not make a whole frame yet. -/
def FrameOpen (bytes : List Byte) : Prop := extent bytes = .undecided ∨ ∃ n, extent bytes = .length n ∧ bytes.length < n

theorem receiveSymbol_of_open {bytes : List Byte} {b : Byte} (h : FrameOpen (bytes ++ [b])) :
    receiveSymbol (some bytes) (.byte b) = (some (bytes ++ [b]), none) := by
  rcases h with undecided | ⟨n, decided, hlt⟩
  · simp only [receiveSymbol, undecided]
  · simp only [receiveSymbol, decided]
    rw [if_pos hlt]

theorem receiveSymbol_of_lost {bytes : List Byte} {b : Byte} (h : extent (bytes ++ [b]) = .lost) :
    receiveSymbol (some bytes) (.byte b) = (none, some .corruptFrameReceived) := by
  simp only [receiveSymbol, h]

theorem receiveSymbol_of_whole {bytes : List Byte} {b : Byte}
    (h : extent (bytes ++ [b]) = .length (bytes ++ [b]).length) :
    receiveSymbol (some bytes) (.byte b) = (none, some (commandOf (bytes ++ [b]))) := by
  simp only [receiveSymbol, h]
  rw [if_neg (Nat.lt_irrefl _)]

/-- No part of a whole frame from its beginning is whole. -/
theorem frameOpen_of_whole {bytes more : List Byte} (hmore : more ≠ [])
    (h : extent (bytes ++ more) = .length (bytes ++ more).length) : FrameOpen bytes := by
  by_cases undecided : extent bytes = .undecided
  · exact .inl undecided
  · refine .inr ⟨_, (extent_append undecided more).symm.trans h, ?_⟩
    have := List.length_pos_iff.mpr hmore
    rw [List.length_append]
    omega

section Frames
variable (hreset : s.resetN = true) (hpending : s.pending = []) (hframing : s.lrx.framing = none)
include hreset hpending

theorem step_receiving_open {bytes : List Byte} {b : Byte} (h : FrameOpen (bytes ++ [b])) (later : List LineSymbol) :
    step (s.receiving bytes (.byte b :: later)) = .next (s.receiving (bytes ++ [b]) later) := by
  rw [step_receiving hreset hpending, receiveSymbol_of_open h, State.receiving, Option.toList_none, hpending]

include hframing

theorem step_receiving_last {bytes : List Byte} {b : Byte} {c : Instr}
    (h : receiveSymbol (some bytes) (.byte b) = (none, some c)) (later : List LineSymbol) :
    step (s.receiving bytes (.byte b :: later)) = .next (s.arrived c later) := by
  rw [step_receiving hreset hpending, h, State.arrived, Option.toList_some, ← hframing]

/-- The bytes of a frame, taken one by one, end in its command. -/
theorem run_receiving (later : List LineSymbol) : ∀ (rest bytes : List Byte), rest ≠ [] →
    extent (bytes ++ rest) = .length (bytes ++ rest).length →
    Host.Core.run Sys2Proof.core rest.length (s.receiving bytes (rest.map .byte ++ later)) =
      .next (s.arrived (commandOf (bytes ++ rest)) later)
  | [], _, hne, _ => absurd rfl hne
  | [b], bytes, _, hwhole =>
    run_of_step 0 (step_receiving_last hreset hpending hframing (receiveSymbol_of_whole hwhole) later)
  | b :: b' :: rest, bytes, _, hwhole => by
    have split : bytes ++ b :: b' :: rest = (bytes ++ [b]) ++ b' :: rest := by
      rw [List.append_assoc, List.singleton_append]
    rw [split] at hwhole ⊢
    have opened : FrameOpen (bytes ++ [b]) := frameOpen_of_whole (List.cons_ne_nil b' rest) hwhole
    exact (run_of_step _ (step_receiving_open hreset hpending opened _)).trans
      (run_receiving later (b' :: rest) (bytes ++ [b]) (List.cons_ne_nil b' rest) hwhole)

/-- A whole frame after a start marker is taken as its command. -/
theorem run_frame {frame : List Byte} {later : List LineSymbol} (hwhole : extent frame = .length frame.length)
    (hline : s.rxLine = .start :: frame.map .byte ++ later) :
    Host.Core.run Sys2Proof.core (frame.length + 1) s = .next (s.arrived (commandOf frame) later) := by
  have nonempty : frame ≠ [] := fun hnil => by
    subst hnil
    cases hwhole
  rw [run_of_step _ (step_start_outside hreset hpending hframing hline)]
  exact run_receiving hreset hpending hframing later frame [] nonempty hwhole

/-- A frame whose length cannot be computed is corrupt at the byte that shows it. -/
theorem run_lostFrame {b : Byte} (later : List LineSymbol) : ∀ (rest bytes : List Byte),
    (∀ more, more <+: rest → FrameOpen (bytes ++ more)) → extent (bytes ++ rest ++ [b]) = .lost →
    Host.Core.run Sys2Proof.core (rest.length + 1) (s.receiving bytes (rest.map .byte ++ .byte b :: later)) =
      .next (s.arrived .corruptFrameReceived later)
  | [], bytes, _, hlost => by
    rw [List.append_nil] at hlost
    exact run_of_step 0 (step_receiving_last hreset hpending hframing (receiveSymbol_of_lost hlost) later)
  | b' :: rest, bytes, hopen, hlost => by
    have opened : FrameOpen (bytes ++ [b']) := hopen [b'] (List.prefix_append [b'] rest)
    refine (run_of_step _ (step_receiving_open hreset hpending opened _)).trans
      (run_lostFrame later rest (bytes ++ [b']) (fun more hmore => ?_) ?_)
    · rw [List.append_assoc]
      exact hopen (b' :: more) (List.cons_prefix_cons.mpr ⟨rfl, hmore⟩)
    · rw [List.append_assoc bytes, List.singleton_append]
      exact hlost

end Frames

end Sys2Proof.Machine
end

section
/-! SUPPORT. How the bytes of each form of frame make its command, and the obligation about frames on the receive pair
(O51). -/

namespace Sys2Proof.Machine

/-! ### Fields of a byte -/

theorem highField_of_two {k : BitVec 4} {z w : BitVec 2} : (k ++ z ++ w : Byte).extractLsb' 4 4 = k :=
  (BitVec.extractLsb'_append_eq_of_le (by decide)).trans BitVec.extractLsb'_append_eq_left

theorem gradeOfBits_gradeBits (g : Grade) : gradeOfBits (gradeBits g) = g := by cases g <;> rfl

/-! ### The length of a frame by its kind code -/

theorem extent_of_postedWrite {bytes : List Byte} (hlong : 2 < bytes.length) (hkind : kindCode bytes = 0x1#4) :
    extent bytes = .length (sizeOfByte (byteAt bytes 2) + 10) := by
  rw [extent, if_neg (by omega), hkind]
  exact if_neg (Nat.not_le.mpr hlong)

theorem extent_of_strictWrite {bytes : List Byte} (hlong : 3 < bytes.length) (hkind : kindCode bytes = 0x3#4) :
    extent bytes = .length (sizeOfByte (byteAt bytes 3) + 11) := by
  rw [extent, if_neg (by omega), hkind]
  exact if_neg (Nat.not_le.mpr hlong)

theorem extent_of_strictRead {bytes : List Byte} (hnil : bytes ≠ []) (hkind : kindCode bytes = 0x2#4) :
    extent bytes = .length 11 := by
  rw [extent, if_neg (mt List.length_eq_zero_iff.mp hnil), hkind]
  rfl

theorem extent_of_training {bytes : List Byte} (hnil : bytes ≠ []) (hkind : kindCode bytes = 0xC#4) :
    extent bytes = .length 9 := by
  rw [extent, if_neg (mt List.length_eq_zero_iff.mp hnil), hkind]
  rfl

theorem extent_of_event {bytes : List Byte} (hnil : bytes ≠ []) (hkind : kindCode bytes = 0x5#4) :
    extent bytes = .length 11 := by
  rw [extent, if_neg (mt List.length_eq_zero_iff.mp hnil), hkind]
  rfl

theorem extent_of_short {bytes : List Byte} (hnil : bytes ≠ [])
    (hkind : kindCode bytes ∈ [0x8#4, 0x9#4, 0xA#4, 0xD#4]) : extent bytes = .length 4 := by
  rw [extent, if_neg (mt List.length_eq_zero_iff.mp hnil)]
  simp only [List.mem_cons, List.not_mem_nil, or_false] at hkind
  rcases hkind with hkind | hkind | hkind | hkind
  all_goals
    rw [hkind]
    rfl

theorem extent_of_unassigned {bytes : List Byte} (hnil : bytes ≠ [])
    (hkind : kindCode bytes ∈ [0x0#4, 0x6#4, 0x7#4, 0xB#4, 0xF#4]) : extent bytes = .lost := by
  rw [extent, if_neg (mt List.length_eq_zero_iff.mp hnil)]
  simp only [List.mem_cons, List.not_mem_nil, or_false] at hkind
  rcases hkind with hkind | hkind | hkind | hkind | hkind
  all_goals
    rw [hkind]
    rfl

/-! ### The forms -/

/-- A frame with this body has a length that fits it, and arrives as `c` when its CRC fits. -/
def ArrivesAs (body : List Byte) (c : Instr) : Prop :=
  ∀ a b : Byte, extent (body ++ [a, b]) = .length (body ++ [a, b]).length ∧
    (crcPasses (body ++ [a, b]) = true → commandOf (body ++ [a, b]) = c)

theorem bodyOf_append {body : List Byte} {a b : Byte} : bodyOf (body ++ [a, b]) = body := by simp [bodyOf]

theorem crcPasses_append {body : List Byte} {a b : Byte} :
    crcPasses (body ++ [a, b]) = true ↔ body ++ [a, b] = withCrc body := by
  rw [crcPasses, bodyOf_append, beq_iff_eq, eq_comm]

theorem ArrivesAs.commandOf_eq {body : List Byte} {c : Instr} (h : ArrivesAs body c) (a b : Byte) :
    commandOf (body ++ [a, b]) = if body ++ [a, b] = withCrc body then c else .corruptFrameReceived := by
  by_cases hcrc : crcPasses (body ++ [a, b]) = true
  · rw [(h a b).2 hcrc, if_pos (crcPasses_append.mp hcrc)]
  · rw [if_neg fun heq => hcrc (crcPasses_append.mpr heq), commandOf, if_pos (by simp [hcrc])]

/-! #### AK, NK, CR, AL and PM -/

/-- A frame whose body is one byte after byte 0. -/
theorem arrivesAs_short {k z : BitVec 4} {x : Byte} (f : Byte → Instr) (hk : k ∈ [0x8#4, 0x9#4, 0xA#4, 0xD#4])
    (hcommand : ∀ bytes, crcPasses bytes = true → kindCode bytes = k → commandOf bytes = f (byteAt bytes 1)) :
    ArrivesAs [k ++ z, x] (f x) := by
  intro a b
  have kind : kindCode ([k ++ z, x] ++ [a, b]) = k := BitVec.extractLsb'_append_eq_left
  exact ⟨extent_of_short (by simp) (kind.symm ▸ hk), fun hcrc => hcommand _ hcrc kind⟩

theorem arrivesAs_ak (z : BitVec 4) (x : Byte) : ArrivesAs [0x8#4 ++ z, x] (.akReceived (x.extractLsb' 0 7)) :=
  arrivesAs_short (fun y => .akReceived (numberOf y)) (by decide) fun bytes hcrc hkind => by
    rw [commandOf, hcrc, hkind]
    rfl

theorem arrivesAs_nk (z : BitVec 4) (x : Byte) : ArrivesAs [0x9#4 ++ z, x] (.nkReceived (x.extractLsb' 0 7)) :=
  arrivesAs_short (fun y => .nkReceived (numberOf y)) (by decide) fun bytes hcrc hkind => by
    rw [commandOf, hcrc, hkind]
    rfl

theorem arrivesAs_cr (z : BitVec 4) (x : Byte) : ArrivesAs [0xA#4 ++ z, x] (.crReceived x) :=
  arrivesAs_short .crReceived (by decide) fun bytes hcrc hkind => by
    rw [commandOf, hcrc, hkind]
    rfl

theorem arrivesAs_al (z : BitVec 4) (x : Byte) : ArrivesAs [0xD#4 ++ z, x] (.alReceived x) :=
  arrivesAs_short .alReceived (by decide) fun bytes hcrc hkind => by
    rw [commandOf, hcrc, hkind]
    rfl

theorem arrivesAs_pm (n : BitVec 4) (z : BitVec 6) (g : Grade) (q w : Byte) :
    ArrivesAs [0xE#4 ++ n, z ++ gradeBits g, q, w] (.pmReceived n g q w) := by
  intro a b
  have kind : kindCode ([0xE#4 ++ n, z ++ gradeBits g, q, w] ++ [a, b]) = 0xE#4 := BitVec.extractLsb'_append_eq_left
  have session : (byteAt ([0xE#4 ++ n, z ++ gradeBits g, q, w] ++ [a, b]) 0).extractLsb' 0 4 = n :=
    BitVec.extractLsb'_append_eq_right
  have grade : (byteAt ([0xE#4 ++ n, z ++ gradeBits g, q, w] ++ [a, b]) 1).extractLsb' 0 2 = gradeBits g :=
    BitVec.extractLsb'_append_eq_right
  refine ⟨?_, fun hcrc => ?_⟩
  · rw [extent, kind]
    rfl
  · rw [commandOf, hcrc, kind, session, grade, gradeOfBits_gradeBits]
    rfl

/-! #### SK -/

theorem commandOf_of_training {bytes : List Byte} (hcrc : crcPasses bytes = true) (hkind : kindCode bytes = 0xC#4) :
    commandOf bytes =
      if (bodyOf bytes).drop 1 = Config.skPattern then .skReceived (gradeOfBits ((byteAt bytes 0).extractLsb' 0 2))
      else .rejectedFrameReceived := by
  rw [commandOf, hcrc, hkind]
  rfl

theorem arrivesAs_sk (z : BitVec 2) (g : Grade) :
    ArrivesAs ((0xC#4 ++ z ++ gradeBits g) :: Config.skPattern) (.skReceived g) := by
  intro a b
  have kind : kindCode (((0xC#4 ++ z ++ gradeBits g) :: Config.skPattern) ++ [a, b]) = 0xC#4 := highField_of_two
  have grade : (byteAt (((0xC#4 ++ z ++ gradeBits g) :: Config.skPattern) ++ [a, b]) 0).extractLsb' 0 2 = gradeBits g :=
    BitVec.extractLsb'_append_eq_right
  refine ⟨extent_of_training (by simp) kind, fun hcrc => ?_⟩
  rw [commandOf_of_training hcrc kind, grade, gradeOfBits_gradeBits, bodyOf_append]
  exact if_pos rfl

/-- An SK whose pattern is wrong is rejected. -/
theorem arrivesAs_wrongPattern (z : BitVec 4) {pattern : List Byte} (hlen : pattern.length = 6)
    (hwrong : pattern ≠ Config.skPattern) : ArrivesAs ((0xC#4 ++ z) :: pattern) .rejectedFrameReceived := by
  intro a b
  have kind : kindCode (((0xC#4 ++ z) :: pattern) ++ [a, b]) = 0xC#4 := BitVec.extractLsb'_append_eq_left
  refine ⟨?_, fun hcrc => ?_⟩
  · rw [extent_of_training (by simp) kind]
    simp [hlen]
  · rw [commandOf_of_training hcrc kind, bodyOf_append]
    exact if_neg hwrong

/-! #### EV -/

theorem arrivesAs_ev (k : BitVec 4) (x : Byte) (v : Vector Byte 7) :
    ArrivesAs ([0x5#4 ++ k, x] ++ v.toList) (.evReceived (x.extractLsb' 0 7) k v) := by
  intro a b
  have kind : kindCode ([0x5#4 ++ k, x] ++ v.toList ++ [a, b]) = 0x5#4 := BitVec.extractLsb'_append_eq_left
  have eventKind : (byteAt ([0x5#4 ++ k, x] ++ v.toList ++ [a, b]) 0).extractLsb' 0 4 = k :=
    BitVec.extractLsb'_append_eq_right
  have eventBody : (Vector.ofFn fun i : Fin 7 => byteAt ([0x5#4 ++ k, x] ++ v.toList ++ [a, b]) (2 + i)) = v := by
    refine Vector.ext fun i hi => ?_
    have inBody : i < v.toList.length := by simpa using hi
    rw [Vector.getElem_ofFn, byteAt, List.append_assoc, List.getD_eq_getElem?_getD,
      List.getElem?_append_right (Nat.le_add_right 2 i)]
    simp only [List.length_cons, List.length_nil, Nat.add_sub_cancel_left]
    rw [List.getElem?_append_left inBody, List.getElem?_eq_getElem inBody, Option.getD_some, Vector.getElem_toList]
  refine ⟨?_, fun hcrc => ?_⟩
  · rw [extent_of_event (by simp) kind]
    simp
  · rw [commandOf, hcrc, kind]
    simp only [eventKind, eventBody]
    rfl

/-! #### CP -/

/-- The frame of a completion has the length that its count field gives, whatever its status. -/
theorem extent_completion (z st : BitVec 2) (x y : Byte) {data : List Byte} (hdata : data.length ≤ 64) (a b : Byte) :
    extent ([0x4#4 ++ z ++ st, x, y, BitVec.ofNat 8 data.length] ++ data ++ [a, b]) =
      .length ([0x4#4 ++ z ++ st, x, y, BitVec.ofNat 8 data.length] ++ data ++ [a, b]).length := by
  have kind : kindCode ([0x4#4 ++ z ++ st, x, y, BitVec.ofNat 8 data.length] ++ data ++ [a, b]) = 0x4#4 :=
    highField_of_two
  have count :
      (byteAt ([0x4#4 ++ z ++ st, x, y, BitVec.ofNat 8 data.length] ++ data ++ [a, b]) 3).toNat = data.length :=
    Nat.mod_eq_of_lt (Nat.lt_of_le_of_lt hdata (by decide))
  have long : ¬ ([0x4#4 ++ z ++ st, x, y, BitVec.ofNat 8 data.length] ++ data ++ [a, b]).length ≤ 3 := by
    simp only [List.length_append, List.length_cons, List.length_nil]
    omega
  rw [extent_of_completion (by simp) (congrArg BitVec.toNat kind), if_neg long, count, if_neg (Nat.not_lt.mpr hdata)]
  refine congrArg Extent.length ?_
  simp only [List.length_append, List.length_cons, List.length_nil]
  omega

/-- The status bits of a completion that the part takes. -/
def statusBits : CpStatus → BitVec 2
  | .ok => 0#2
  | .remoteFault => 1#2
  | .unsupported => 2#2

theorem statusOf_statusBits (st : CpStatus) : statusOf (statusBits st) = some st := by cases st <;> rfl

theorem arrivesAs_cp (z : BitVec 2) (x y : Byte) (st : CpStatus) {data : List Byte} (hdata : data.length ≤ 64) :
    ArrivesAs ([0x4#4 ++ z ++ statusBits st, x, y, BitVec.ofNat 8 data.length] ++ data)
      (.cpReceived (x.extractLsb' 0 7) (y.extractLsb' 0 5).toFin st data) := by
  refine fun a b => ⟨extent_completion z (statusBits st) x y hdata a b, fun hcrc => ?_⟩
  have kind : kindCode ([0x4#4 ++ z ++ statusBits st, x, y, BitVec.ofNat 8 data.length] ++ data ++ [a, b]) = 0x4#4 :=
    highField_of_two
  have status :
      (byteAt ([0x4#4 ++ z ++ statusBits st, x, y, BitVec.ofNat 8 data.length] ++ data ++ [a, b]) 0).extractLsb' 0 2 =
        statusBits st := BitVec.extractLsb'_append_eq_right
  rw [commandOf, hcrc, kind, status, statusOf_statusBits, bodyOf_append]
  rfl

/-- A completion with the unassigned status is rejected. -/
theorem arrivesAs_unassignedStatus (z : BitVec 2) (x y : Byte) {data : List Byte} (hdata : data.length ≤ 64) :
    ArrivesAs ([0x4#4 ++ z ++ 3#2, x, y, BitVec.ofNat 8 data.length] ++ data) .rejectedFrameReceived := by
  refine fun a b => ⟨extent_completion z 3#2 x y hdata a b, fun hcrc => ?_⟩
  have kind : kindCode ([0x4#4 ++ z ++ 3#2, x, y, BitVec.ofNat 8 data.length] ++ data ++ [a, b]) = 0x4#4 :=
    highField_of_two
  have status :
      (byteAt ([0x4#4 ++ z ++ 3#2, x, y, BitVec.ofNat 8 data.length] ++ data ++ [a, b]) 0).extractLsb' 0 2 = 3#2 :=
    BitVec.extractLsb'_append_eq_right
  rw [commandOf, hcrc, kind, status]
  rfl

/-! #### PW, HR and HW, which the part only sends -/

theorem arrivesAs_pw (z : BitVec 4) (x y : Byte) {rest : List Byte}
    (hrest : rest.length = (y.extractLsb' 0 6).toNat + 6) :
    ArrivesAs ([0x1#4 ++ z, x, y] ++ rest) .rejectedFrameReceived := by
  intro a b
  have kind : kindCode ([0x1#4 ++ z, x, y] ++ rest ++ [a, b]) = 0x1#4 := BitVec.extractLsb'_append_eq_left
  have size : sizeOfByte (byteAt ([0x1#4 ++ z, x, y] ++ rest ++ [a, b]) 2) = (y.extractLsb' 0 6).toNat + 1 := rfl
  refine ⟨?_, fun hcrc => ?_⟩
  · rw [extent_of_postedWrite (by simp) kind, size]
    refine congrArg Extent.length ?_
    simp only [List.length_append, List.length_cons, List.length_nil]
    omega
  · rw [commandOf, hcrc, kind]
    rfl

theorem arrivesAs_hr (z : BitVec 4) {rest : List Byte} (hrest : rest.length = 8) :
    ArrivesAs ((0x2#4 ++ z) :: rest) .rejectedFrameReceived := by
  intro a b
  have kind : kindCode (((0x2#4 ++ z) :: rest) ++ [a, b]) = 0x2#4 := BitVec.extractLsb'_append_eq_left
  refine ⟨?_, fun hcrc => ?_⟩
  · rw [extent_of_strictRead (by simp) kind]
    simp [hrest]
  · rw [commandOf, hcrc, kind]
    rfl

theorem arrivesAs_hw (z : BitVec 4) (x y t : Byte) {rest : List Byte}
    (hrest : rest.length = (t.extractLsb' 0 6).toNat + 6) :
    ArrivesAs ([0x3#4 ++ z, x, y, t] ++ rest) .rejectedFrameReceived := by
  intro a b
  have kind : kindCode ([0x3#4 ++ z, x, y, t] ++ rest ++ [a, b]) = 0x3#4 := BitVec.extractLsb'_append_eq_left
  have size : sizeOfByte (byteAt ([0x3#4 ++ z, x, y, t] ++ rest ++ [a, b]) 3) = (t.extractLsb' 0 6).toNat + 1 := rfl
  refine ⟨?_, fun hcrc => ?_⟩
  · rw [extent_of_strictWrite (by simp) kind, size]
    refine congrArg Extent.length ?_
    simp only [List.length_append, List.length_cons, List.length_nil]
    omega
  · rw [commandOf, hcrc, kind]
    rfl

/-! ### Frames on the receive pair -/

variable {s : State}

section Runs
variable (hreset : s.resetN = true) (hpending : s.pending = []) (hframing : s.lrx.framing = none)
include hreset hpending hframing

theorem ArrivesAs.run {body : List Byte} {c : Instr} (h : ArrivesAs body c) {a b : Byte} {later : List LineSymbol}
    (hline : s.rxLine = .start :: (body ++ [a, b]).map .byte ++ later) :
    Host.Core.run Sys2Proof.core ((body ++ [a, b]).length + 1) s =
      .next (s.arrived (if body ++ [a, b] = withCrc body then c else .corruptFrameReceived) later) := by
  rw [run_frame hreset hpending hframing (h a b).1 hline, h.commandOf_eq]

theorem run_unassignedKind {x : Byte} {later : List LineSymbol}
    (hkind : x.extractLsb' 4 4 ∈ [0x0#4, 0x6#4, 0x7#4, 0xB#4, 0xF#4]) (hline : s.rxLine = .start :: .byte x :: later) :
    Host.Core.run Sys2Proof.core 2 s = .next (s.arrived .corruptFrameReceived later) := by
  rw [run_of_step 1 (step_start_outside hreset hpending hframing hline)]
  refine run_lostFrame hreset hpending hframing later [] [] (fun more hmore => .inl ?_)
    (extent_of_unassigned (List.cons_ne_nil x []) hkind)
  rw [List.prefix_nil.mp hmore]
  rfl

theorem run_longCompletion {x y z l : Byte} {later : List LineSymbol} (hkind : x.extractLsb' 4 4 = 0x4#4)
    (hlong : 64 < l.toNat) (hline : s.rxLine = .start :: .byte x :: .byte y :: .byte z :: .byte l :: later) :
    Host.Core.run Sys2Proof.core 5 s = .next (s.arrived .corruptFrameReceived later) := by
  have completion (more : List Byte) : (kindCode (x :: more)).toNat = 4 :=
    congrArg BitVec.toNat (show kindCode (x :: more) = 0x4#4 from hkind)
  rw [run_of_step 4 (step_start_outside hreset hpending hframing hline)]
  refine run_lostFrame hreset hpending hframing later [x, y, z] [] (fun more hmore => .inl ?undecided) ?lost
  case undecided =>
    cases more with
    | nil => rfl
    | cons x' more =>
      have short : (x' :: more).length ≤ 3 := hmore.length_le
      obtain ⟨rfl, _⟩ := List.cons_prefix_cons.mp hmore
      rw [List.nil_append, extent_of_completion (List.cons_ne_nil _ _) (completion more), if_pos short]
  case lost =>
    exact (extent_of_completion (List.cons_ne_nil _ _) (completion [y, z, l])).trans (if_pos hlong)

end Runs

/-- A start marker inside a frame truncates it and begins the next one. -/
theorem step_start_inside {bytes : List Byte} {later : List LineSymbol} (hreset : s.resetN = true)
    (hpending : s.pending = []) (hframing : s.lrx.framing = some bytes) (hline : s.rxLine = .start :: later) :
    step s = .next
      { s with
        rxLine := later
        lrx := { s.lrx with framing := some [] }
        pending := [.corruptFrameReceived] } := by
  rw [step_start hreset hpending hline, hframing]
  rfl

/-- Settles O51: every form arrives as its command, and the symbols of a frame are taken one by one, no part of a
frame being whole before its last byte. -/
theorem framesOnTheReceivePairBecomeTheirCommands : Obligations.FramesOnTheReceivePairBecomeTheirCommands := by
  refine ⟨⟨by decide +kernel, fun bytes => rfl⟩, ?forms, ?withoutForm, ?truncated⟩
  case forms =>
    rintro s body frame a b c later hreset hpending hframing hform rfl hline
    refine ArrivesAs.run hreset hpending hframing ?_ hline
    rcases hform with ⟨z, x, rfl, rfl⟩ | ⟨z, x, rfl, rfl⟩ | ⟨z, x, rfl, rfl⟩ | ⟨z, x, rfl, rfl⟩ | ⟨z, g, rfl, rfl⟩ |
      ⟨n, z, g, q, w, rfl, rfl⟩ | ⟨k, x, v, rfl, rfl⟩ | ⟨z, x, y, st, data, hdata, rfl, rfl⟩ | ⟨rfl, hrejected⟩
    · exact arrivesAs_ak z x
    · exact arrivesAs_nk z x
    · exact arrivesAs_cr z x
    · exact arrivesAs_al z x
    · exact arrivesAs_sk z g
    · exact arrivesAs_pm n z g q w
    · exact arrivesAs_ev k x v
    · cases st
      · exact arrivesAs_cp z x y .ok hdata
      · exact arrivesAs_cp z x y .remoteFault hdata
      · exact arrivesAs_cp z x y .unsupported hdata
    · rcases hrejected with ⟨z, x, y, data, hdata, rfl⟩ | ⟨z, x, y, rest, hrest, rfl⟩ | ⟨z, rest, hrest, rfl⟩ |
        ⟨z, x, y, t, rest, hrest, rfl⟩ | ⟨z, pattern, hlen, hwrong, rfl⟩
      · exact arrivesAs_unassignedStatus z x y hdata
      · exact arrivesAs_pw z x y hrest
      · exact arrivesAs_hr z hrest
      · exact arrivesAs_hw z x y t hrest
      · exact arrivesAs_wrongPattern z hlen hwrong
  case withoutForm =>
    intro s x y z l later hreset hpending hframing
    exact ⟨run_unassignedKind hreset hpending hframing, run_longCompletion hreset hpending hframing,
      fun hline => run_of_step 0 (step_byte_outside hreset hpending hframing hline)⟩
  case truncated =>
    intro s bytes later hreset hpending hframing hline
    exact run_of_step 0 (step_start_inside hreset hpending hframing hline)

end Sys2Proof.Machine
end
